-- ==== Sys2Proof/Word.lean ====
section
/-! DEFINITION. The word types of SLPG: what the spec treats as bits, at the widths it gives (00_scope.md R6, R9; 10_state.md R20). -/

namespace Sys2Proof

/-- An unsigned W-bit value, W = 32: a phase register or a scale strap (R6; log 1). -/
abbrev Word := BitVec 32

/-- A cursor register or a pixel coordinate: unsigned 16 bits (R31, R32). -/
abbrev Coord := BitVec 16

/-- A packed 565 pixel, or one element of a frame buffer: 16 bits (R54, R85). -/
abbrev Pixel := BitVec 16

/-- An element index on the FBW interface: unsigned 32 bits (R90, R142). -/
abbrev ElemIdx := BitVec 32

/-- One byte of the byte view of an element (R55). -/
abbrev Byte := BitVec 8

/-- What the allocator returns, naming one frame buffer. DESIGN CHOICE (log 5): the OPEN type `Handle`
of R6 is the natural numbers; nothing but equality is ever asked of a handle. -/
abbrev Handle := Nat

end Sys2Proof
end

