-- ==== Sys2Proof/Config.lean ====
section
/-! DEFINITION. What is fixed when SLPG is built (the straps and ROMs of 00_scope.md R6), what the environment may do at a step boundary (30_encoding.md R90, 60_exceptions.md R182), and the values the spec leaves open, as constants without a body. -/

namespace Sys2Proof

/-- The build-time strap `MODE` (R6, D11): which generator is active. -/
inductive Mode where
  | plasma
  | solid
  deriving DecidableEq, Repr, Inhabited

/-- `FB_BYTE_ORDER` (R6, R55): where the bytes of an element lie in a byte view. -/
inductive ByteOrder where
  | little
  | big
  deriving DecidableEq, Repr, Inhabited

/-- The parameter record of R6, as raw data; `Straps.Legal` (WellFormed.lean) is R7. -/
structure Straps where
  mode : Mode
  hres : Nat
  vres : Nat
  stride : Nat
  rscale : Word
  gscale : Word
  bscale : Word
  phaseInitR : Word
  phaseInitG : Word
  phaseInitB : Word
  /-- The sine ROM (R38): 256 entries, each 8-bit two's complement (R88). -/
  sineTable : Vector (BitVec 8) 256
  /-- The palette ROM (R39, R131): exactly 8 packed pixels. -/
  palette : Vector Pixel 8
  /-- The opaque duration handed to the wait primitive (R147); no rule depends on it. -/
  framePeriod : Nat
  byteOrder : ByteOrder
  deriving DecidableEq, Repr, Inhabited

/-- The allocator's answer to `Alloc()` (R66, R90). -/
inductive AllocReply where
  /-- `ok(h)`. `contents` lists what the environment put into elements of the fresh buffer; an element
  it does not list holds an arbitrary value (R58). -/
  | ok (h : Handle) (contents : List (ElemIdx × Pixel))
  /-- A handle whose buffer has fewer than STRIDE·VRES elements: a breach of the contract of R57. -/
  | short (h : Handle)
  /-- `fail`: the allocator is exhausted (R170). -/
  | fail
  deriving DecidableEq, Repr

/-- The two host actions (R182). -/
inductive HostAction where
  | reset
  | terminate
  deriving DecidableEq, Repr

/-- A store by the environment into an element of a frame buffer (R59: its own affair unless SLPG owns
the buffer). -/
structure EnvStore where
  handle : Handle
  index : ElemIdx
  value : Pixel
  deriving DecidableEq, Repr

/-- What the environment does at one step boundary (log 8): at most one host action, its stores, and
which pending transactions it completes. `none` and `false` mean "not yet" (R176). -/
structure EnvInput where
  host : Option HostAction
  stores : List EnvStore
  alloc : Option AllocReply
  submitted : Bool
  waited : Bool
  deriving DecidableEq, Repr, Inhabited

/-- FREE VALUE (log 8). What the environment does at a boundary that no script covers, one draw for
each value of the counter `Env.draws`. -/
opaque Config.freeInput : Nat → EnvInput

/-- FREE VALUE (log 3). The OPEN parameters of the installed part (R6, 92 "Parameters left OPEN");
Machine/Installed.lean brings them into the ranges of R7. -/
opaque Config.openStraps : Straps

end Sys2Proof
end

