-- ==== Sys2Proof/Machine/Rom.lean ====
section
/-! DEFINITION. The fixed constants of 00_scope.md R6 and R8, and the two sine tables the spec prints (40_sine_lookup.md R102, R106). -/

namespace Sys2Proof.Machine

/-- `ARG_SHIFT` (R8). -/
def argShift : Nat := 4

/-- `PROD_SHIFT` (R8). -/
def prodShift : Nat := 7

/-- `RDELTA` (R6, R146). -/
def rDelta : Word := 11

/-- `GDELTA` (R6, R146). -/
def gDelta : Word := 7

/-- `BDELTA` (R6, R146). -/
def bDelta : Word := 5

/-- `CDELTA` (R6, R24). -/
def cDelta : Word := 1

/-- The rows of the default table of R102, sixteen entries to the row. -/
def sineDefaultRows : List Int :=
  [0, 3, 6, 9, 12, 16, 19, 22, 25, 28, 31, 34, 37, 40, 43, 46,
   49, 51, 54, 57, 60, 63, 65, 68, 71, 73, 76, 78, 81, 83, 85, 88,
   90, 92, 94, 96, 98, 100, 102, 104, 106, 107, 109, 111, 112, 113, 115, 116,
   117, 118, 120, 121, 122, 122, 123, 124, 125, 125, 126, 126, 126, 127, 127, 127] ++
  [127, 127, 127, 127, 126, 126, 126, 125, 125, 124, 123, 122, 122, 121, 120, 118,
   117, 116, 115, 113, 112, 111, 109, 107, 106, 104, 102, 100, 98, 96, 94, 92,
   90, 88, 85, 83, 81, 78, 76, 73, 71, 68, 65, 63, 60, 57, 54, 51,
   49, 46, 43, 40, 37, 34, 31, 28, 25, 22, 19, 16, 12, 9, 6, 3] ++
  [0, -3, -6, -9, -12, -16, -19, -22, -25, -28, -31, -34, -37, -40, -43, -46,
   -49, -51, -54, -57, -60, -63, -65, -68, -71, -73, -76, -78, -81, -83, -85, -88,
   -90, -92, -94, -96, -98, -100, -102, -104, -106, -107, -109, -111, -112, -113, -115, -116,
   -117, -118, -120, -121, -122, -122, -123, -124, -125, -125, -126, -126, -126, -127, -127, -127] ++
  [-127, -127, -127, -127, -126, -126, -126, -125, -125, -124, -123, -122, -122, -121, -120, -118,
   -117, -116, -115, -113, -112, -111, -109, -107, -106, -104, -102, -100, -98, -96, -94, -92,
   -90, -88, -85, -83, -81, -78, -76, -73, -71, -68, -65, -63, -60, -57, -54, -51,
   -49, -46, -43, -40, -37, -34, -31, -28, -25, -22, -19, -16, -12, -9, -6, -3]

/-- The default `SINE_TABLE` of R102, each entry in 8-bit two's complement (R88). -/
def sineDefault : Vector (BitVec 8) 256 :=
  ⟨(sineDefaultRows.map (BitVec.ofInt 8)).toArray, by decide +kernel⟩

/-- The first half of the truncation table of R106: `trunc(127·sin(2π·i/256))` for i in 0..127. -/
def sineTrunc : List Int :=
  [0, 3, 6, 9, 12, 15, 18, 21, 24, 27, 30, 33, 36, 39, 42, 45,
   48, 51, 54, 57, 59, 62, 65, 67, 70, 73, 75, 78, 80, 82, 85, 87,
   89, 91, 94, 96, 98, 100, 102, 103, 105, 107, 108, 110, 112, 113, 114, 116,
   117, 118, 119, 120, 121, 122, 123, 123, 124, 125, 125, 126, 126, 126, 126, 126] ++
  [127, 126, 126, 126, 126, 126, 125, 125, 124, 123, 123, 122, 121, 120, 119, 118,
   117, 116, 114, 113, 112, 110, 108, 107, 105, 103, 102, 100, 98, 96, 94, 91,
   89, 87, 85, 82, 80, 78, 75, 73, 70, 67, 65, 62, 59, 57, 54, 51,
   48, 45, 42, 39, 36, 33, 30, 27, 24, 21, 18, 15, 12, 9, 6, 3]

end Sys2Proof.Machine
end

