-- ==== Sys2Proof/Syntax.lean ====
section
/-! DEFINITION. The operations of SLPG: one constructor per row of spec/opcode_table.json (30_encoding.md R80 to R84). -/

namespace Sys2Proof

/-- The sixteen identifiers of R82 and R83. No operation has operand fields (R81): every operand comes
from a named register, a constant, or, for a function applied directly, its call arguments (R89). -/
inductive Instr where
  /-- R143: acquire a frame buffer, zero the cursor. -/
  | acq
  /-- R144: generate one pixel, store it, advance the cursor. -/
  | pix
  /-- R145: submit the completed buffer, drop the handle. -/
  | sub
  /-- R146: advance the phase registers of the active generator. -/
  | adv
  /-- R147: wait out the frame period. -/
  | wait
  /-- R148: the halted state. -/
  | halt
  /-- R84: SEQ value 6, reserved. -/
  | reserved6
  /-- R84: SEQ value 7, reserved. -/
  | reserved7
  /-- R100: fixed-point sine lookup. -/
  | sine
  /-- R111: sine argument of one coordinate of one channel. -/
  | arg
  /-- R113: one colour channel before masking. -/
  | chan
  /-- R114: mask three channel values and pack them. -/
  | pack565
  /-- R115: the plasma pixel. -/
  | plasma
  /-- R130: the solid-fill pixel. -/
  | solid
  /-- R142: element index of a visible pixel. -/
  | addr
  /-- R141: the active generator's pixel. -/
  | gen
  deriving DecidableEq, Repr

end Sys2Proof
end

