-- ==== Sys2Proof/WellFormed.lean ====
section
/-! DEFINITION. Which configurations spell an SLPG (00_scope.md R7, 40_sine_lookup.md R101), and which identifiers are assigned (30_encoding.md R84). -/

namespace Sys2Proof

/-- Entry `i` of the sine ROM, read as a signed 8-bit value (R38, R88). -/
def Straps.sineEntry (c : Straps) (i : Fin 256) : Int := (c.sineTable.get i).toInt

/-- R7: 1 ≤ HRES. -/
abbrev Straps.HresOk (c : Straps) : Prop := 1 ≤ c.hres

/-- R7: HRES ≤ STRIDE ≤ 65535. -/
abbrev Straps.StrideOk (c : Straps) : Prop := c.hres ≤ c.stride ∧ c.stride ≤ 65535

/-- R7: 1 ≤ VRES ≤ 65535. -/
abbrev Straps.VresOk (c : Straps) : Prop := 1 ≤ c.vres ∧ c.vres ≤ 65535

/-- R101 (T2) to (T5): the four anchor values. -/
abbrev Straps.SineAnchorsOk (c : Straps) : Prop :=
  c.sineEntry 0 = 0 ∧ c.sineEntry 64 = 127 ∧ c.sineEntry 128 = 0 ∧ c.sineEntry 192 = -127

/-- R101 (T6): antisymmetry about 128. -/
abbrev Straps.SineAntisymmetricOk (c : Straps) : Prop :=
  ∀ i : Fin 128, c.sineEntry ⟨i.val + 128, by omega⟩ = -c.sineEntry ⟨i.val, by omega⟩

/-- R101 (T7): every entry is within 1 of `127·sin(2π·i/256)`. DEDUCED (log 4): away from the anchors
the real value is no integer, so "within 1" means the integer below it, which R106 prints, or the one
above; (T6) covers the second half. -/
abbrev Straps.SineApproxOk (c : Straps) : Prop :=
  ∀ i : Fin 128, i.val ≠ 0 → i.val ≠ 64 →
    Machine.sineTrunc.getD i.val 0 ≤ c.sineEntry ⟨i.val, by omega⟩ ∧
      c.sineEntry ⟨i.val, by omega⟩ ≤ Machine.sineTrunc.getD i.val 0 + 1

/-- R7: the constraints a configuration must meet. The palette's 8 entries, the 16 bits of an entry and
the width of scales and phase reset values are in the types of `Straps`. -/
structure Straps.Legal (c : Straps) : Prop where
  hres : c.HresOk
  stride : c.StrideOk
  vres : c.VresOk
  anchors : c.SineAnchorsOk
  antisymmetric : c.SineAntisymmetricOk
  approx : c.SineApproxOk

/-- Which constraint of R7 a configuration breaks. -/
inductive ConfigRefusal where
  /-- HRES = 0. -/
  | hres
  /-- STRIDE < HRES, or STRIDE > 65535. -/
  | stride
  /-- VRES = 0, or VRES > 65535. -/
  | vres
  /-- (T2) to (T5) of R101. -/
  | sineAnchors
  /-- (T6) of R101. -/
  | sineAntisymmetric
  /-- (T7) of R101. -/
  | sineApprox
  deriving DecidableEq, Repr

/-- R7, M3: a configuration that breaks a constraint is refused, by name. -/
def Straps.check (c : Straps) : Option ConfigRefusal :=
  if ¬c.HresOk then some .hres
  else if ¬c.StrideOk then some .stride
  else if ¬c.VresOk then some .vres
  else if ¬c.SineAnchorsOk then some .sineAnchors
  else if ¬c.SineAntisymmetricOk then some .sineAntisymmetric
  else if ¬c.SineApproxOk then some .sineApprox
  else none

/-- A configuration with its legality: an illegal record "spells no SLPG" (R7, M3) and cannot be built. -/
structure Config where
  straps : Straps
  legal : straps.Legal
  deriving DecidableEq, Repr

/-- The identifiers to which R82 and R83 assign an operation; 6 and 7 are reserved (R84). -/
def Instr.WellFormed : Instr → Bool
  | .reserved6 | .reserved7 => false
  | .acq | .pix | .sub | .adv | .wait | .halt
  | .sine | .arg | .chan | .pack565 | .plasma | .solid | .addr | .gen => true

end Sys2Proof
end

