-- ==== Sys2Proof/Decode.lean ====
section
/-! DEFINITION. The 4-bit identifiers of 30_encoding.md R81 to R84: decoder and encoder, and their byte layout. -/

namespace Sys2Proof

/-- Why bytes hold no operation identifier. -/
inductive DecodeError where
  /-- There is no byte left. -/
  | noByte
  /-- The byte has a bit above `OP[3:0]` set. -/
  | highBits (b : Byte)
  deriving DecidableEq, Repr

/-- R82: the sequencer operation that the SEQ value `OP[2:0]` selects; 6 and 7 are reserved (R84). -/
def decodeSeq (n : BitVec 3) : Instr :=
  match n.toNat with
  | 0 => .acq
  | 1 => .pix
  | 2 => .sub
  | 3 => .adv
  | 4 => .wait
  | 5 => .halt
  | 6 => .reserved6
  | _ => .reserved7

/-- R83: the datapath function with number `OP[2:0]`; all eight are assigned. -/
def decodeFn (n : BitVec 3) : Instr :=
  match n.toNat with
  | 0 => .sine
  | 1 => .arg
  | 2 => .chan
  | 3 => .pack565
  | 4 => .plasma
  | 5 => .solid
  | 6 => .addr
  | _ => .gen

/-- R81: `OP[3]` is the class, 0 a sequencer operation and 1 a datapath function. -/
def decodeOp (op : BitVec 4) : Instr :=
  if op.getLsbD 3 then decodeFn (op.extractLsb' 0 3) else decodeSeq (op.extractLsb' 0 3)

/-- One identifier from the front of a list of bytes, with the rest. DESIGN CHOICE (log 14): an
identifier stands in bits 3:0 of a byte whose other bits are 0. -/
def decode : List Byte → Except DecodeError (Instr × List Byte)
  | [] => .error .noByte
  | b :: rest =>
    if b.extractLsb' 4 4 = 0#4 then .ok (decodeOp (b.extractLsb' 0 4), rest)
    else .error (.highBits b)

/-- The identifier of each operation, from the tables of R82 and R83. -/
def encodeOp : Instr → BitVec 4
  | .acq => 0b0000#4
  | .pix => 0b0001#4
  | .sub => 0b0010#4
  | .adv => 0b0011#4
  | .wait => 0b0100#4
  | .halt => 0b0101#4
  | .reserved6 => 0b0110#4
  | .reserved7 => 0b0111#4
  | .sine => 0b1000#4
  | .arg => 0b1001#4
  | .chan => 0b1010#4
  | .pack565 => 0b1011#4
  | .plasma => 0b1100#4
  | .solid => 0b1101#4
  | .addr => 0b1110#4
  | .gen => 0b1111#4

/-- The byte that holds an operation's identifier. -/
def encodeByte (i : Instr) : Byte := (encodeOp i).setWidth 8

/-- The bytes of an operation: one (R81: all identifiers have the same length). -/
def encode (i : Instr) : List Byte := [encodeByte i]

/-- The bytes of an instruction word as spec/opcode_table.json numbers its bits, lowest byte first. -/
def wordBytes (nbits w : Nat) : List Byte :=
  (List.range ((nbits + 7) / 8)).map fun k => BitVec.ofNat 8 (w / 256 ^ k)

/-- The operation that the decoder reads from an instruction word of the opcode table. -/
def decodeTableWord (nbits w : Nat) : Option Instr :=
  match decode (wordBytes nbits w) with
  | .ok (i, _) => some i
  | .error _ => none

/-- R91: the encoding of a trace is the sequence of the identifiers of its steps. -/
def encodeTrace (is : List Instr) : List Byte := is.flatMap encode

end Sys2Proof
end

