-- ==== Sys2Proof/Machine/Installed.lean ====
section
/-! DEFINITION. The configuration of the part that `State.reset` describes: the spec's defaults where it gives them, a free value where it leaves a parameter OPEN (00_scope.md R6; log 3). -/

namespace Sys2Proof

/-- A raw record brought into the ranges of R7, with the spec's default sine table (R102) and its default
phase reset values 0 (R6, R46). Every legal resolution and stride is reached, and every other field is
kept (`Sys2Proof.Laws.legalise_covers`). -/
def Straps.legalise (r : Straps) : Straps :=
  { r with
    hres := r.hres % 65535 + 1
    stride := (r.hres % 65535 + 1) + r.stride % (65535 - r.hres % 65535)
    vres := r.vres % 65535 + 1
    phaseInitR := 0
    phaseInitG := 0
    phaseInitB := 0
    sineTable := Machine.sineDefault }

/-- The default table of R102 meets every constraint of R101, so a record with it is legal when its
resolution is. -/
theorem Straps.legal_of_default {c : Straps} (ht : c.sineTable = Machine.sineDefault)
    (hres : c.HresOk) (stride : c.StrideOk) (vres : c.VresOk) : c.Legal := by
  have h : ∀ i, c.sineEntry i = (Machine.sineDefault.get i).toInt := fun i => by
    rw [Straps.sineEntry, ht]
  refine ⟨hres, stride, vres, ?_, ?_, ?_⟩
  · simp only [Straps.SineAnchorsOk, h]
    decide +kernel
  · simp only [Straps.SineAntisymmetricOk, h]
    decide +kernel
  · simp only [Straps.SineApproxOk, h]
    decide +kernel

/-- Whatever the raw record, `legalise` gives a legal one. -/
theorem Straps.legalise_legal (r : Straps) : r.legalise.Legal := by
  refine Straps.legal_of_default rfl (Nat.le_add_left 1 _) ?_ ?_
  · have h := Nat.mod_lt r.hres (show 0 < 65535 by omega)
    have h' := Nat.mod_lt r.stride (show 0 < 65535 - r.hres % 65535 by omega)
    simp only [Straps.StrideOk, Straps.legalise]
    omega
  · have h := Nat.mod_lt r.vres (show 0 < 65535 by omega)
    simp only [Straps.VresOk, Straps.legalise]
    omega

/-- The configuration installed in the part. -/
def Config.installed : Config := ⟨Config.openStraps.legalise, Config.openStraps.legalise_legal⟩

end Sys2Proof
end

