-- ==== Sys2Proof/Machine/State.lean ====
section
/-! DEFINITION. The state of SLPG (10_state.md R20), the environment's frame buffers and inputs beside it, the reasons a step can stop, and the state after reset (R46). -/

namespace Sys2Proof.Machine

/-- The frame-buffer storage (20_memory.md R50) as a byte view, addresses strictly rising (log 6). A byte
that is not listed has no known value (R58; log 7). -/
abbrev Memory := List Host.Cell

/-- The environment's conduct: what it does at the coming step boundaries, and which free draw follows
when the script is used up (log 8). -/
structure Env where
  script : List EnvInput
  draws : Nat
  deriving DecidableEq, Repr

/-- A transaction on one of the four interfaces of 30_encoding.md R90. -/
inductive Transaction where
  /-- `Alloc()` answered `ok(h)`. -/
  | allocOk (h : Handle)
  /-- `Alloc()` answered `fail`. -/
  | allocFail
  /-- `FbWrite(h, idx, v)`. -/
  | fbWrite (h : Handle) (idx : ElemIdx) (v : Pixel)
  /-- `Submit(h)`. -/
  | submit (h : Handle)
  /-- `Wait(FRAME_PERIOD)`. -/
  | wait (period : Nat)
  deriving DecidableEq, Repr

/-- The call arguments of a datapath function applied directly (R83, R89); each function reads the
fields that its signature names. -/
structure CallArgs where
  p : Int
  phase : Word
  coord : Coord
  scale : Word
  x : Coord
  y : Coord
  r : Int
  g : Int
  b : Int
  rstart : Word
  gstart : Word
  bstart : Word
  counter : Word
  deriving DecidableEq, Repr

/-- The model's own bench (log 13): a datapath function to be applied directly at the next step, its
arguments, and the last value returned, read as an integer. No register of SLPG ever holds any of it
(R81), and no step of SLPG's own asks for a call. -/
structure Bench where
  request : Option (BitVec 3)
  args : CallArgs
  result : Option Int
  deriving DecidableEq, Repr

/-- The cause label of 60_exceptions.md R170: held by no register, shown on no port. -/
inductive Cause where
  | allocFail
  deriving DecidableEq, Repr

/-- Why a step stops with a fault. -/
inductive Fault where
  /-- Raised by PIX and SUB when BUFV = 0 (R34, M2: "a read of it then is a model fault"). Safe: no state
  reachable from reset has it (R45 I2). -/
  | bufHasNoValue
  /-- Raised by PIX when its cursor is outside the frame, against its precondition (R144; log 17). Safe: no
  state reachable from reset has it (R45 I3). -/
  | cursorOutsideFrame
  deriving DecidableEq, Repr

/-- Why a step has no meaning. -/
inductive Refusal where
  /-- An arm of `exec` without a meaning; no arm of this model answers it. Safe. -/
  | notModelled (mnemonic : String)
  /-- Raised by RESERVED6 and RESERVED7 (R84, M1: "refused (no step, no meaning; toward unprovable)"). Safe. -/
  | reservedSeq (value : Nat)
  /-- Raised by ACQ when the allocator breaks the contract of R57 ("a model refuses it"). Safe. -/
  | shortBuffer (h : Handle)
  /-- Raised by the step when the environment stores into the buffer SLPG owns (R182, M5: "no move in the
  model"). Safe. -/
  | ownedBufferTouched (h : Handle)
  deriving DecidableEq, Repr

/-- The whole state. The first field is the constant configuration (R192; log 2), the next nine are the
registers of R20, and the last five are not SLPG's own (INVENTORY.md, "State"). -/
structure State where
  cfg : Config
  rstart : Word
  gstart : Word
  bstart : Word
  counter : Word
  seq : BitVec 3
  cx : Coord
  cy : Coord
  buf : Option Handle
  bufv : Bool
  fb : Memory
  env : Env
  trace : List Transaction
  bench : Bench
  terminated : Bool
  deriving DecidableEq, Repr

/-- No call pending, arguments zero (log 22). -/
def Bench.idle : Bench where
  request := none
  args := ⟨0, 0, 0, 0, 0, 0, 0, 0, 0, 0, 0, 0, 0⟩
  result := none

/-- R46 for a given configuration and a given conduct of the environment. -/
def State.resetWith (cfg : Config) (env : Env) : State where
  cfg := cfg
  rstart := cfg.straps.phaseInitR
  gstart := cfg.straps.phaseInitG
  bstart := cfg.straps.phaseInitB
  counter := 0
  seq := 0
  cx := 0
  cy := 0
  buf := none
  bufv := false
  fb := []
  env := env
  trace := []
  bench := Bench.idle
  terminated := false

/-- The machine right after reset (R46) in the installed configuration (log 3), with every act of the
environment a free value (log 8). -/
def State.reset : State := State.resetWith Config.installed ⟨[], 0⟩

end Sys2Proof.Machine
end

