-- ==== Sys2Proof/Machine/Memory.lean ====
section
/-! DEFINITION. The frame-buffer storage: bytes at addresses in one canonical form, and the 16-bit elements built from them in one place (20_memory.md R50 to R58; log 6, log 7). -/

namespace Sys2Proof.Machine

/-- The canonical form: addresses strictly rising. An unlisted byte reads as "no known value", so no entry
can equal it. -/
abbrev Memory.wf (m : Memory) : Prop := m.Pairwise fun a b => a.1 < b.1

/-- The byte at an address; `none` where the environment's draw is not known (R58). -/
def Memory.read : Memory → Nat → Option Byte
  | [], _ => none
  | (x, v) :: m, a => if x = a then some v else Memory.read m a

/-- One byte stored, in the canonical form. -/
def Memory.write : Memory → Nat → Byte → Memory
  | [], a, b => [(a, b)]
  | (x, v) :: m, a, b =>
    if a < x then (a, b) :: (x, v) :: m
    else if a = x then (a, b) :: m
    else (x, v) :: Memory.write m a b

/-- The lower byte address of element `idx` of buffer `h`: a name for the pair, injective because an
index is below 2^32 (log 6; R65: no physical address is implied). -/
def elemAddr (h : Handle) (idx : ElemIdx) : Nat := h * 2 ^ 33 + 2 * idx.toNat

/-- The buffer that a byte address belongs to. -/
def bufferOf (a : Nat) : Handle := a / 2 ^ 33

/-- The byte of an element at its lower address: `v[7:0]` if little, `v[15:8]` if big (R55). -/
def lowerByte (o : ByteOrder) (v : Pixel) : Byte :=
  match o with
  | .little => v.extractLsb' 0 8
  | .big => v.extractLsb' 8 8

/-- The byte of an element at its upper address (R55). -/
def upperByte (o : ByteOrder) (v : Pixel) : Byte :=
  match o with
  | .little => v.extractLsb' 8 8
  | .big => v.extractLsb' 0 8

/-- The element made of the bytes at its lower and upper address (R55). -/
def joinBytes (o : ByteOrder) (lower upper : Byte) : Pixel :=
  match o with
  | .little => upper ++ lower
  | .big => lower ++ upper

/-- The value of an element, where it is known: the environment's view (SLPG reads no buffer, R53). -/
def Memory.readElem (m : Memory) (o : ByteOrder) (h : Handle) (idx : ElemIdx) : Option Pixel :=
  match m.read (elemAddr h idx), m.read (elemAddr h idx + 1) with
  | some lower, some upper => some (joinBytes o lower upper)
  | _, _ => none

/-- One whole element stored (R54). -/
def Memory.writeElem (m : Memory) (o : ByteOrder) (h : Handle) (idx : ElemIdx) (v : Pixel) : Memory :=
  (m.write (elemAddr h idx) (lowerByte o v)).write (elemAddr h idx + 1) (upperByte o v)

/-- Buffer `h` with every element an arbitrary value again (R58). -/
def Memory.forget (m : Memory) (h : Handle) : Memory := m.filter fun c => bufferOf c.1 ≠ h

/-- The listed elements stored into buffer `h`, in order. DESIGN CHOICE (log 26): an index of STRIDE·VRES or
more names no element of the fresh buffer (R50) and is dropped. -/
def Memory.fill (m : Memory) (o : ByteOrder) (h : Handle) (size : Nat) :
    List (ElemIdx × Pixel) → Memory
  | [] => m
  | (idx, v) :: rest =>
    Memory.fill (if idx.toNat < size then m.writeElem o h idx v else m) o h size rest

/-- The environment's own stores, in order. DESIGN CHOICE (log 26): a store is performed at any 32-bit index,
since R193 (b) lets a buffer have more than STRIDE·VRES elements and no rule says what such a store does. -/
def Memory.applyStores (m : Memory) (o : ByteOrder) : List EnvStore → Memory
  | [] => m
  | st :: rest => Memory.applyStores (m.writeElem o st.handle st.index st.value) o rest

end Sys2Proof.Machine
end

