-- ==== Sys2Proof/Machine/Ops.lean ====
section
/-! DEFINITION. The named operations over the registers, the interfaces and the environment; taking the one exception (60_exceptions.md R174) and the host's RESET beside it (70_reset_and_hazards.md R190). -/

namespace Sys2Proof.Machine

/-- `SEQ <- q` (R30). -/
def State.setSeq (s : State) (q : BitVec 3) : State := { s with seq := q }

/-- `CX <- x ; CY <- y` (R31, R32). -/
def State.setCursor (s : State) (x y : Coord) : State := { s with cx := x, cy := y }

/-- `BUF <- h ; BUFV <- 1` (R143). -/
def State.holdBuffer (s : State) (h : Handle) : State := { s with buf := some h, bufv := true }

/-- `BUFV <- 0 ; BUF <- (no value)` (R145). -/
def State.releaseBuffer (s : State) : State := { s with buf := none, bufv := false }

/-- The frame-buffer storage replaced. -/
def State.setFb (s : State) (m : Memory) : State := { s with fb := m }

/-- A transaction issued on an interface (R90); the newest stands first (log 10). -/
def State.issue (s : State) (t : Transaction) : State := { s with trace := t :: s.trace }

/-- A direct call answered: the request is used up and its value kept (log 13). -/
def State.answerCall (s : State) (v : Int) : State :=
  { s with bench := ⟨none, s.bench.args, some v⟩ }

/-- The environment's next step boundary (log 8). -/
def State.advanceEnv (s : State) : State :=
  { s with env :=
      match s.env.script with
      | [] => ⟨[], s.env.draws + 1⟩
      | _ :: rest => ⟨rest, s.env.draws⟩ }

/-- TERMINATE: "no further step; state frozen" (R182; log 12): every register keeps its value for good. -/
def State.freeze (s : State) : State := { s with terminated := true }

/-- `RSTART += 11 ; GSTART += 7 ; BSTART += 5` or `COUNTER += 1`, modulo 2^W, by MODE (R146). -/
def State.advancePhases (s : State) (m : Mode) : State :=
  match m with
  | .plasma => { s with
      rstart := s.rstart + rDelta
      gstart := s.gstart + gDelta
      bstart := s.bstart + bDelta }
  | .solid => { s with counter := s.counter + cDelta }

/-- RESET (R190): every register to the state of R46, and no transaction (log 11); `abandonBuffer` beside it
deals with a held buffer. -/
def State.resetRegs (s : State) : State :=
  { s with
    rstart := s.cfg.straps.phaseInitR
    gstart := s.cfg.straps.phaseInitG
    bstart := s.cfg.straps.phaseInitB
    counter := 0
    seq := 0
    cx := 0
    cy := 0
    buf := none
    bufv := false }

/-- The values of SEQ (R30, R82). -/
def seqAcq : BitVec 3 := 0
/-- SEQ = PIX. -/
def seqPix : BitVec 3 := 1
/-- SEQ = SUB. -/
def seqSub : BitVec 3 := 2
/-- SEQ = ADV. -/
def seqAdv : BitVec 3 := 3
/-- SEQ = WAIT. -/
def seqWait : BitVec 3 := 4
/-- SEQ = HALT. -/
def seqHalt : BitVec 3 := 5

/-- R170: the label of a cause in a model's fault type; 0 would mean "no failure". -/
def Cause.code : Cause → Nat
  | .allocFail => 1

/-- TAKING THE EXCEPTION (R174): `SEQ <- HALT`; nothing is saved anywhere and no other register changes.
There is no return from it (R175): only RESET leaves HALT. -/
def State.raise (s : State) (c : Cause) : State :=
  match c with
  | .allocFail => s.setSeq seqHalt

/-- The handle a rule reads as `BUF`: none when BUFV = 0 or BUF holds no value (R34). -/
def State.heldBuffer (s : State) : Option Handle := if s.bufv then s.buf else none

/-- STRIDE·VRES, the number of elements of a frame buffer (R50). -/
def State.bufferSize (s : State) : Nat := s.cfg.straps.stride * s.cfg.straps.vres

/-- `FbWrite(h, idx, v)` (R11, R54): one whole element stored, and the transaction issued. -/
def State.fbWrite (s : State) (h : Handle) (idx : ElemIdx) (v : Pixel) : State :=
  (s.setFb (s.fb.writeElem s.cfg.straps.byteOrder h idx v)).issue (.fbWrite h idx v)

/-- `FB[h][idx]`, where its value is known (R50). -/
def State.fbRead (s : State) (h : Handle) (idx : ElemIdx) : Option Pixel :=
  s.fb.readElem s.cfg.straps.byteOrder h idx

/-- R58: at acquisition every element of `FB[h]` is the environment's draw; the listed ones are known. -/
def State.freshBuffer (s : State) (h : Handle) (contents : List (ElemIdx × Pixel)) : State :=
  s.setFb ((s.fb.forget h).fill s.cfg.straps.byteOrder h s.bufferSize contents)

/-- RESET and TERMINATE abandon a held buffer unsubmitted (R182): from then on its contents may be any value
(M6, R155; log 29), so nothing that was known of it stays known. -/
def State.abandonBuffer (s : State) : State :=
  s.setFb (match s.heldBuffer with
    | some h => s.fb.forget h
    | none => s.fb)

/-- What the environment does at this step boundary: the script's next entry, or a free draw (log 8). -/
def State.input (s : State) : EnvInput :=
  match s.env.script with
  | i :: _ => i
  | [] => Config.freeInput s.env.draws

/-- The handle of the buffer SLPG owns, if the environment stores into it at this boundary, against its
duty (R59, R182). -/
def State.envBreach (s : State) : Option Handle :=
  match s.heldBuffer with
  | some h => if s.input.stores.any (fun st => st.handle == h) then some h else none
  | none => none

/-- The environment's own stores of this boundary, performed before SLPG's part of it (log 24). -/
def State.applyEnvStores (s : State) : State :=
  s.setFb (s.fb.applyStores s.cfg.straps.byteOrder s.input.stores)

/-- `OP[3:0]` of the next step: class 0 with the value of SEQ (R81), or class 1 with the number of a function
whose direct call is pending (log 13). -/
def State.fetchOp (s : State) : BitVec 4 :=
  match s.bench.request with
  | some n => 1#1 ++ n
  | none => 0#1 ++ s.seq

/-- What a step adds around the operation it runs: the environment moves on to its next boundary. -/
def closeStep {φ ρ : Type} : Host.Outcome State φ ρ → Host.Outcome State φ ρ
  | .next s => .next s.advanceEnv
  | .fault f => .fault f
  | .refused r => .refused r

/-- An input that completes every transaction with a fresh buffer of handle 0 and does nothing else
(log 15). -/
def answeringInput : EnvInput where
  host := none
  stores := []
  alloc := some (.ok 0 [])
  submitted := true
  waited := true

/-- SEQ and the bench set so that `fetchOp` gives the identifier `op`. -/
def State.selectOp (s : State) (op : BitVec 4) : State :=
  if op.getLsbD 3 then { s with bench := ⟨some (op.extractLsb' 0 3), s.bench.args, s.bench.result⟩ }
  else { s with seq := op.extractLsb' 0 3, bench := ⟨none, s.bench.args, s.bench.result⟩ }

/-- A handle in BUF where an operation selected out of its order needs one (R144, R145; log 15). -/
def State.withBuffer (s : State) : State :=
  match s.heldBuffer with
  | some _ => s
  | none => if s.seq = seqPix ∨ s.seq = seqSub then s.holdBuffer 0 else s

end Sys2Proof.Machine
end

