-- ==== Sys2Proof/Machine/Flags.lean ====
section
/-! DEFINITION. SLPG has no flags (10_state.md R36). Here are the only conditions its sequencer tests: the two cursor comparisons of PIX. -/

namespace Sys2Proof.Machine

/-- `CX + 1 < HRES` is false: the cursor is on the last column (R36, R144). -/
def State.endOfRow (s : State) : Bool := !decide (s.cx.toNat + 1 < s.cfg.straps.hres)

/-- `CY + 1 < VRES` is false: the cursor is on the last row (R36, R144). -/
def State.lastRow (s : State) : Bool := !decide (s.cy.toNat + 1 < s.cfg.straps.vres)

/-- The cursor names a visible pixel: PIX's precondition (R144; R45 I3). -/
def State.cursorInFrame (s : State) : Bool :=
  decide (s.cx.toNat < s.cfg.straps.hres) && decide (s.cy.toNat < s.cfg.straps.vres)

end Sys2Proof.Machine
end

