-- ==== Sys2Proof/Machine/Bits.lean ====
section
/-! DEFINITION. The operators of 00_scope.md R10 that rules apply to integers. -/

namespace Sys2Proof.Machine

/-- `lsr(a, k)` on a non-negative integer: `floor(a / 2^k)`. -/
def lsr (a k : Nat) : Nat := a / 2 ^ k

/-- `asr(a, k)` on any integer: `floor(a / 2^k)`, rounding toward −∞. -/
def asr (a : Int) (k : Nat) : Int := Int.fdiv a (2 ^ k)

/-- `a & (2^k − 1)` for any integer: `a mod 2^k`, the low k bits of its two's complement. -/
def maskLow (a : Int) (k : Nat) : Nat := (a % 2 ^ k).toNat

end Sys2Proof.Machine
end

