-- ==== Sys2Proof/Machine/Operands.lean ====
section
/-! DEFINITION. The operand wiring of 30_encoding.md R89: the operand sources and the widenings of the datapath. -/

namespace Sys2Proof.Machine

/-- A coordinate zero-extended to w bits, the input of ARG's multiplier (R89, R111). -/
def widenCoord (w : Nat) (c : Coord) : BitVec w := c.setWidth w

/-- A coordinate zero-extended to 32 bits, the input of ADDR (R89, R142). -/
def widenIndex (c : Coord) : ElemIdx := c.setWidth 32

/-- A sine value sign-extended to 16 bits, the input of CHAN's multiplier (R89, R112). -/
def widenSine (v : BitVec 8) : BitVec 16 := v.signExtend 16

/-- The index of the sine ROM for any integer: the non-negative remainder modulo 256 (R100). -/
def sineIndex (p : Int) : Fin 256 := ⟨maskLow p 8, by
  have h := Int.emod_lt_of_pos p (show (0 : Int) < 2 ^ 8 by decide)
  have h' := Int.emod_nonneg p (show (2 ^ 8 : Int) ≠ 0 by decide)
  simp only [maskLow]
  omega⟩

/-- The index of the palette ROM: the counter modulo 8 (R130). -/
def paletteIndex (counter : Word) : Fin 8 := ⟨counter.toNat % 8, Nat.mod_lt _ (by decide)⟩

end Sys2Proof.Machine
end

