-- ==== Sys2Proof/Machine/Sine.lean ====
section
/-! DEFINITION. The fixed-point sine lookup (40_sine_lookup.md): SINE. -/

namespace Sys2Proof.Machine

/-- `SINE(p)` (R100): the entry of the sine ROM at `p mod 256`, for every integer. -/
def sine (c : Config) (p : Int) : BitVec 8 := c.straps.sineTable.get (sineIndex p)

/-- SINE applied to its call argument (R100): it reads the ROM and writes no register. -/
def execSine (s : State) : Host.Outcome State Fault Refusal :=
  .next (s.answerCall (sine s.cfg s.bench.args.p).toInt)

end Sys2Proof.Machine
end

