-- ==== Sys2Proof/Machine/Plasma.lean ====
section
/-! DEFINITION. The plasma colour generator (41_plasma_generator.md): ARG, CHAN, PACK565, PLASMA. The arithmetic is written for any phase width w; the machine uses w = 32 (log 1). -/

namespace Sys2Proof.Machine

/-- `ARG(phase, coord, scale)` (R111) at phase width w: wrapping multiply and add, logical shift by 4. -/
def argAt (w : Nat) (phase : BitVec w) (coord : Coord) (scale : BitVec w) : BitVec w :=
  (phase + widenCoord w coord * scale) >>> argShift

/-- The multiplier inside CHAN (R112): a signed 16-bit product. -/
def sineProduct (a b : BitVec 8) : BitVec 16 := widenSine a * widenSine b

/-- `CHAN(phase, x, y, scale)` (R113) at phase width w. -/
def chanAt (w : Nat) (c : Config) (phase : BitVec w) (x y : Coord) (scale : BitVec w) : Int :=
  asr (sineProduct (sine c (argAt w phase x scale).toNat)
    (sine c (argAt w phase y scale).toNat)).toInt prodShift

/-- `PACK565(r, g, b)` (R114): mask to 5, 6 and 5 bits, then shift and combine. -/
def pack565 (r g b : Int) : Pixel :=
  BitVec.ofNat 16 (maskLow r 5 <<< 11 ||| maskLow g 6 <<< 5 ||| maskLow b 5)

/-- The plasma pixel (R115) at phase width w, with the three scale factors given. -/
def plasmaAt (w : Nat) (c : Config) (x y : Coord)
    (rstart gstart bstart rscale gscale bscale : BitVec w) : Pixel :=
  pack565 (chanAt w c rstart x y rscale) (chanAt w c gstart x y gscale)
    (chanAt w c bstart x y bscale)

/-- `ARG` of the machine, W = 32. -/
def arg (phase : Word) (coord : Coord) (scale : Word) : Word := argAt 32 phase coord scale

/-- `CHAN` of the machine, W = 32. -/
def chan (c : Config) (phase : Word) (x y : Coord) (scale : Word) : Int :=
  chanAt 32 c phase x y scale

/-- `PLASMA(x, y, rstart, gstart, bstart)` (R115): the scales are the straps. -/
def plasma (c : Config) (x y : Coord) (rstart gstart bstart : Word) : Pixel :=
  plasmaAt 32 c x y rstart gstart bstart c.straps.rscale c.straps.gscale c.straps.bscale

/-- ARG applied to its call arguments (R111). -/
def execArg (s : State) : Host.Outcome State Fault Refusal :=
  .next (s.answerCall (arg s.bench.args.phase s.bench.args.coord s.bench.args.scale).toNat)

/-- CHAN applied to its call arguments (R113). -/
def execChan (s : State) : Host.Outcome State Fault Refusal :=
  .next (s.answerCall
    (chan s.cfg s.bench.args.phase s.bench.args.x s.bench.args.y s.bench.args.scale))

/-- PACK565 applied to its call arguments (R114). -/
def execPack565 (s : State) : Host.Outcome State Fault Refusal :=
  .next (s.answerCall (pack565 s.bench.args.r s.bench.args.g s.bench.args.b).toNat)

/-- PLASMA applied to its call arguments (R115). -/
def execPlasma (s : State) : Host.Outcome State Fault Refusal :=
  .next (s.answerCall (plasma s.cfg s.bench.args.x s.bench.args.y
    s.bench.args.rstart s.bench.args.gstart s.bench.args.bstart).toNat)

end Sys2Proof.Machine
end

