-- ==== Sys2Proof/Machine/Solid.lean ====
section
/-! DEFINITION. The solid-fill generator (42_solid_fill.md): SOLID. -/

namespace Sys2Proof.Machine

/-- `SOLID(counter)` (R130): the palette entry at `counter mod 8`, as stored (R87). -/
def solid (c : Config) (counter : Word) : Pixel := c.straps.palette.get (paletteIndex counter)

/-- SOLID applied to its call argument (R130). -/
def execSolid (s : State) : Host.Outcome State Fault Refusal :=
  .next (s.answerCall (solid s.cfg s.bench.args.counter).toNat)

end Sys2Proof.Machine
end

