-- ==== Sys2Proof/Machine/FrameLoop.lean ====
section
/-! DEFINITION. The frame loop (43_frame_loop.md): the functions GEN and ADDR, and the sequencer operations ACQ, PIX, SUB, ADV, WAIT, HALT, with the two reserved values of SEQ (30_encoding.md R84). -/

namespace Sys2Proof.Machine

/-- `GEN(x, y)` (R141): the active generator's pixel at the current phase. -/
def gen (s : State) (x y : Coord) : Pixel :=
  match s.cfg.straps.mode with
  | .plasma => plasma s.cfg x y s.rstart s.gstart s.bstart
  | .solid => solid s.cfg s.counter

/-- `ADDR(x, y)` (R142): `y·STRIDE + x` in 32 unsigned bits. -/
def addr (c : Config) (x y : Coord) : ElemIdx :=
  widenIndex y * BitVec.ofNat 32 c.straps.stride + widenIndex x

/-- PIX's advance of the cursor in raster order, y outer and x inner (R144). -/
def State.advanceCursor (s : State) : State :=
  if s.endOfRow then
    if s.lastRow then (s.setCursor 0 0).setSeq seqSub
    else s.setCursor 0 (s.cy + 1)
  else s.setCursor (s.cx + 1) s.cy

/-- ACQ (R143). No answer yet: the step does not happen (R176; log 9). `ok(h)`: the buffer is taken with
arbitrary contents and the cursor zeroed. `fail`: AllocFail is raised. -/
def execAcq (s : State) : Host.Outcome State Fault Refusal :=
  match s.input.alloc with
  | none => .next s
  | some (.ok h contents) =>
    .next ((((s.freshBuffer h contents).holdBuffer h).setCursor 0 0).setSeq seqPix
      |>.issue (.allocOk h))
  | some (.short h) => .refused (.shortBuffer h)
  | some .fail => .next ((s.raise .allocFail).issue .allocFail)

/-- PIX (R144): one pixel generated, stored at ADDR(CX, CY) of BUF, and the cursor advanced. -/
def execPix (s : State) : Host.Outcome State Fault Refusal :=
  match s.heldBuffer with
  | none => .fault .bufHasNoValue
  | some h =>
    if s.cursorInFrame then
      .next (s.fbWrite h (addr s.cfg s.cx s.cy) (gen s s.cx s.cy)).advanceCursor
    else .fault .cursorOutsideFrame

/-- SUB (R145): the completed buffer handed over and the handle dropped. -/
def execSub (s : State) : Host.Outcome State Fault Refusal :=
  match s.heldBuffer with
  | none => .fault .bufHasNoValue
  | some h =>
    .next (if s.input.submitted then (s.issue (.submit h)).releaseBuffer.setSeq seqAdv else s)

/-- ADV (R146): the Animation Clock advanced by its fixed deltas. -/
def execAdv (s : State) : Host.Outcome State Fault Refusal :=
  .next ((s.advancePhases s.cfg.straps.mode).setSeq seqWait)

/-- WAIT (R147): SEQ back to ACQ once the wait has returned. -/
def execWait (s : State) : Host.Outcome State Fault Refusal :=
  .next (if s.input.waited then (s.issue (.wait s.cfg.straps.framePeriod)).setSeq seqAcq else s)

/-- HALT (R148): no step is enabled, no transaction issued, "state unchanged" (log 19). -/
def execHalt (s : State) : Host.Outcome State Fault Refusal := .next s

/-- SEQ = 6 (R84): refused, "never as a no-operation and never as an alias of another state". -/
def execReserved6 (_s : State) : Host.Outcome State Fault Refusal := .refused (.reservedSeq 6)

/-- SEQ = 7 (R84): refused. -/
def execReserved7 (_s : State) : Host.Outcome State Fault Refusal := .refused (.reservedSeq 7)

/-- ADDR applied to its call arguments (R142). -/
def execAddr (s : State) : Host.Outcome State Fault Refusal :=
  .next (s.answerCall (addr s.cfg s.bench.args.x s.bench.args.y).toNat)

/-- GEN applied to its call arguments (R141). -/
def execGen (s : State) : Host.Outcome State Fault Refusal :=
  .next (s.answerCall (gen s s.bench.args.x s.bench.args.y).toNat)

end Sys2Proof.Machine
end

