-- ==== Sys2Proof/Machine/Dispatch.lean ====
section
/-! DEFINITION. The meaning of every operation: one arm per constructor of `Instr`. -/

namespace Sys2Proof.Machine

def exec (i : Instr) (s : State) : Host.Outcome State Fault Refusal :=
  match i with
  | .acq => Sys2Proof.Machine.execAcq s
  | .pix => Sys2Proof.Machine.execPix s
  | .sub => Sys2Proof.Machine.execSub s
  | .adv => Sys2Proof.Machine.execAdv s
  | .wait => Sys2Proof.Machine.execWait s
  | .halt => Sys2Proof.Machine.execHalt s
  | .reserved6 => Sys2Proof.Machine.execReserved6 s
  | .reserved7 => Sys2Proof.Machine.execReserved7 s
  | .sine => Sys2Proof.Machine.execSine s
  | .arg => Sys2Proof.Machine.execArg s
  | .chan => Sys2Proof.Machine.execChan s
  | .pack565 => Sys2Proof.Machine.execPack565 s
  | .plasma => Sys2Proof.Machine.execPlasma s
  | .solid => Sys2Proof.Machine.execSolid s
  | .addr => Sys2Proof.Machine.execAddr s
  | .gen => Sys2Proof.Machine.execGen s

end Sys2Proof.Machine
end

