-- ==== Sys2Proof/Machine/Step.lean ====
section
/-! DEFINITION. One step: the host's action if there is one (60_exceptions.md R173), else the one operation that SEQ selects (10_state.md R30). -/

namespace Sys2Proof.Machine

/-- The operation the next step runs. -/
def State.fetched (s : State) : Instr := decodeOp s.fetchOp

/-- One step. After TERMINATE only the environment goes on (R182; log 12). An environment that stores into
the owned buffer has no move (M5); DESIGN CHOICE (log 28): so also where it offers a host action at that
boundary. Then the boundary's host action takes precedence over the operation (R173); DESIGN CHOICE (log 27):
so also where SEQ is 6 or 7, which is refused only where its own operation would run. The environment's own
stores come before SLPG's part of the boundary (log 24). -/
def step (s : State) : Host.Outcome State Fault Refusal :=
  if s.terminated then .next s.applyEnvStores.advanceEnv
  else
    match s.envBreach with
    | some h => .refused (.ownedBufferTouched h)
    | none =>
      match s.input.host with
      | some .terminate => .next s.applyEnvStores.abandonBuffer.freeze.advanceEnv
      | some .reset => .next s.applyEnvStores.abandonBuffer.resetRegs.advanceEnv
      | none => closeStep (exec s.fetched s.applyEnvStores)

/-- The state with the identifier `OP[3:0]` of a table word selected as the next step's operation, an
environment that answers it, and the buffer that PIX and SUB presuppose (log 15). -/
def State.withFetchWord (s : State) (_nbits w : Nat) : State :=
  let t := (s.selectOp (BitVec.ofNat 4 w)).withBuffer
  { t with env := ⟨answeringInput :: t.env.script, t.env.draws⟩, terminated := false }

end Sys2Proof.Machine
end

