-- ==== Sys2Proof/Safety.lean ====
section
/-! DEFINITION. The words that claims about runs use: the invariants of 10_state.md R45, the fault outcome of 60_exceptions.md R174, what an operation leaves unchanged, and who owns a buffer according to the transactions issued (20_memory.md R59). -/

namespace Sys2Proof.Machine

/-- R174: the halted state is the fault outcome of a run, with the cause label of R170. -/
def State.runFault (s : State) : Option Cause := if s.seq = seqHalt then some .allocFail else none

/-- R45 I1 to I4, and the canonical form of the frame-buffer storage. -/
structure State.Inv (s : State) : Prop where
  /-- I1: SEQ is never 6 or 7. -/
  seqLegal : s.seq.toNat ≤ 5
  /-- I2: BUFV = 1 if and only if SEQ is PIX or SUB. -/
  bufvIff : s.bufv = true ↔ s.seq = seqPix ∨ s.seq = seqSub
  /-- I2, R34: BUF has a value exactly when BUFV = 1. -/
  bufIff : s.buf.isSome = true ↔ s.bufv = true
  /-- I3: in PIX the cursor names a visible pixel. -/
  cursorIn : s.seq = seqPix → s.cx.toNat < s.cfg.straps.hres ∧ s.cy.toNat < s.cfg.straps.vres
  /-- I4: outside PIX the cursor is (0, 0). -/
  cursorZero : s.seq ≠ seqPix → s.cx = 0 ∧ s.cy = 0
  /-- The storage is in canonical form. -/
  fbWf : Memory.wf s.fb

/-- `(y, x)` is lexicographically before `(y', x')`: raster order, y outer and x inner (R33). -/
def before (x y x' y' : Coord) : Prop :=
  y.toNat < y'.toNat ∨ (y = y' ∧ x.toNat < x'.toNat)

/-- A coordinate of the visible rectangle. -/
def Visible (c : Config) (x y : Coord) : Prop :=
  x.toNat < c.straps.hres ∧ y.toNat < c.straps.vres

/-- R45 I6 as to contents, and R61 at Submit: in PIX every visible element before the cursor, and in SUB every
visible element, holds the active generator's pixel at the current phase. TERMINATE abandons the buffer, whose
contents may then be any value (M6), so the invariant speaks of a run that has not ended. -/
structure State.FrameFilled (s : State) : Prop where
  /-- While SEQ = PIX. -/
  partly : ∀ h x y, s.terminated = false → s.seq = seqPix → s.heldBuffer = some h → Visible s.cfg x y →
    before x y s.cx s.cy → s.fbRead h (addr s.cfg x y) = some (gen s x y)
  /-- While SEQ = SUB. -/
  whole : ∀ h x y, s.terminated = false → s.seq = seqSub → s.heldBuffer = some h → Visible s.cfg x y →
    s.fbRead h (addr s.cfg x y) = some (gen s x y)

/-- A step boundary at which SLPG's own operation runs: the run has not ended, the environment keeps its
duty and offers no host action, and no direct call is pending. -/
def State.Quiet (s : State) : Prop :=
  s.terminated = false ∧ s.envBreach = none ∧ s.input.host = none ∧ s.bench.request = none

/-- The four phase registers are unchanged. -/
def SamePhases (s t : State) : Prop :=
  t.rstart = s.rstart ∧ t.gstart = s.gstart ∧ t.bstart = s.bstart ∧ t.counter = s.counter

/-- The cursor registers are unchanged. -/
def SameCursor (s t : State) : Prop := t.cx = s.cx ∧ t.cy = s.cy

/-- BUF and BUFV are unchanged. -/
def SameBuffer (s t : State) : Prop := t.buf = s.buf ∧ t.bufv = s.bufv

/-- The configuration, the environment, the bench and the end of the run are unchanged: what no sequencer
operation touches. -/
def SameOutside (s t : State) : Prop :=
  t.cfg = s.cfg ∧ t.env = s.env ∧ t.bench = s.bench ∧ t.terminated = s.terminated

/-- Every byte of the frame-buffer storage is unchanged. -/
def SameStorage (s t : State) : Prop := ∀ a, t.fb.read a = s.fb.read a

/-- What a datapath function leaves unchanged (R110: it reads or writes no register): everything but the
bench, where the request is used up and the arguments stay. -/
def PureCall (s t : State) : Prop :=
  t.cfg = s.cfg ∧ SamePhases s t ∧ t.seq = s.seq ∧ SameCursor s t ∧ SameBuffer s t ∧
    SameStorage s t ∧ t.env = s.env ∧ t.trace = s.trace ∧ t.terminated = s.terminated ∧
    t.bench.request = none ∧ t.bench.args = s.bench.args

/-- The buffer that the transactions issued so far (newest first) leave with SLPG: the handle of the last
`ok` answer, unless it was submitted or a later `Alloc()` failed. -/
def ownerOf : List Transaction → Option Handle
  | [] => none
  | .allocOk h :: _ => some h
  | .allocFail :: _ => none
  | .fbWrite _ _ _ :: ts => ownerOf ts
  | .submit _ :: _ => none
  | .wait _ :: ts => ownerOf ts

/-- SLPG's duty in R59: every store and every Submit names the buffer that is then SLPG's own; so no store
to a buffer follows its Submit. -/
def OwnedUse : List Transaction → Prop
  | [] => True
  | .fbWrite h _ _ :: ts => ownerOf ts = some h ∧ OwnedUse ts
  | .submit h :: ts => ownerOf ts = some h ∧ OwnedUse ts
  | .allocOk _ :: ts => OwnedUse ts
  | .allocFail :: ts => OwnedUse ts
  | .wait _ :: ts => OwnedUse ts

/-- The invariant behind R59: the transactions so far keep the duty, and they say that a held buffer is
SLPG's own. -/
def State.OwnsWhatItHolds (s : State) : Prop :=
  OwnedUse s.trace ∧ ∀ h, s.heldBuffer = some h → ownerOf s.trace = some h

/-- Everything SLPG has is unchanged: configuration, registers, the transactions issued and the bench. -/
def SameMachine (s t : State) : Prop :=
  t.cfg = s.cfg ∧ SamePhases s t ∧ t.seq = s.seq ∧ SameCursor s t ∧ SameBuffer s t ∧
    t.trace = s.trace ∧ t.bench = s.bench

/-- What RESET and TERMINATE leave of the storage (M6, R155): no byte of a buffer that was held is known; every
other byte is as before. -/
def BufferAbandoned (s t : State) : Prop :=
  ∀ a, t.fb.read a = if s.heldBuffer = some (bufferOf a) then none else s.fb.read a

/-- `k` steps of the machine from `s` give `t`. -/
def Reaches (s : State) (k : Nat) (t : State) : Prop := Host.Core.run Sys2Proof.core k s = .next t

/-- The environment keeps its duties at this boundary and offers no host action (R182). -/
def State.Undisturbed (s : State) : Prop :=
  s.envBreach = none ∧ s.input.host = none ∧
    (s.seq = seqAcq → ∀ h, s.input.alloc ≠ some (.short h))

/-- The transaction that SEQ has in progress is answered at this boundary. -/
def State.Answered (s : State) : Prop :=
  (s.seq = seqAcq → s.input.alloc ≠ none) ∧ (s.seq = seqSub → s.input.submitted = true) ∧
    (s.seq = seqWait → s.input.waited = true)

/-- What the environment does at the boundary `m` boundaries from now. -/
def State.inputAfter (s : State) (m : Nat) : EnvInput := (State.advanceEnv^[m] s).input

/-- Premise (F-alloc) of R201, for the `Alloc()` in progress: it is eventually answered, however late. -/
def State.FAlloc (s : State) : Prop := s.seq = seqAcq → ∃ m, (s.inputAfter m).alloc ≠ none

/-- Premise (F-submit) of R201, for the `Submit(h)` in progress: it eventually completes. -/
def State.FSubmit (s : State) : Prop := s.seq = seqSub → ∃ m, (s.inputAfter m).submitted = true

/-- Premise (F-wait) of R201, for the `Wait` in progress: it eventually returns. -/
def State.FWait (s : State) : Prop := s.seq = seqWait → ∃ m, (s.inputAfter m).waited = true

/-- Since state `s` a frame has just been submitted, or the machine has halted (R153). -/
def EndedSince (s u : State) : Prop :=
  u.seq = seqHalt ∨ ∃ h newer, u.trace = .submit h :: (newer ++ s.trace)

/-- The transactions of FILL (R92), newest first: one FbWrite for each visible pixel, in raster order. -/
def fillTransactions (s : State) (h : Handle) : List Transaction :=
  ((List.range s.cfg.straps.vres).flatMap fun y =>
    (List.range s.cfg.straps.hres).map fun x =>
      Transaction.fbWrite h (addr s.cfg (BitVec.ofNat 16 x) (BitVec.ofNat 16 y))
        (gen s (BitVec.ofNat 16 x) (BitVec.ofNat 16 y))).reverse

end Sys2Proof.Machine
end

