-- ==== Sys2Proof/Certificates/Slice0/Obligations.lean ====
section
/-! DEFINITION. The statements about SLPG for the provers: encodings, each operation's effect and frame, the laws of the datapath, the invariants, and one whole iteration. -/

open Sys2Proof Sys2Proof.Machine

/-- R81 to R83 with the byte layout of log 14 (the model's choice): the decoder reads exactly the bytes
that the encoder writes, for every operation and whatever follows, and refuses every other byte. -/
def Obligations.DecodeExactlyInvertsEncode : Prop :=
  (∀ (bs rest : List Byte) (i : Instr), decode bs = .ok (i, rest) ↔ bs = encodeByte i :: rest) ∧
  (∀ bs : List Byte, (∃ e, decode bs = .error e) ↔
    bs = [] ∨ ∃ b rest, bs = b :: rest ∧ 16 ≤ b.toNat)

/-- Words written out from the tables of R82 and R83 decode to their operations, and the values of SEQ are
those of R30. -/
def Obligations.TableWordsDecode : Prop :=
  decodeTableWord 8 0b0000 = some .acq ∧ decodeTableWord 8 0b0001 = some .pix ∧
  decodeTableWord 8 0b0010 = some .sub ∧ decodeTableWord 8 0b0101 = some .halt ∧
  decodeTableWord 8 0b1000 = some .sine ∧ decodeTableWord 8 0b1001 = some .arg ∧
  decodeTableWord 8 0b1100 = some .plasma ∧ decodeTableWord 8 0b1101 = some .solid ∧
  seqAcq.toNat = 0 ∧ seqPix.toNat = 1 ∧ seqSub.toNat = 2 ∧ seqAdv.toNat = 3 ∧
  seqWait.toNat = 4 ∧ seqHalt.toNat = 5

/-- R84: SEQ values 6 and 7 are refused, no operation writes them, and every class-1 identifier is
assigned. -/
def Obligations.ReservedSeqIsRefused : Prop :=
  (∀ s, exec .reserved6 s = .refused (.reservedSeq 6) ∧ exec .reserved7 s = .refused (.reservedSeq 7)) ∧
  (∀ s : State, s.Quiet → 6 ≤ s.seq.toNat → step s = .refused (.reservedSeq s.seq.toNat)) ∧
  (∀ i s t, exec i s = .next t → 6 ≤ t.seq.toNat → t.seq = s.seq) ∧
  (∀ n : BitVec 3, (decodeFn n).WellFormed = true)

/-- A step runs the decoded operation. With no end, breach or host action, the step is `exec` of the
operation that the identifier decodes to, on the state after the environment's own stores (log 24); a next
state then moves the environment to its next boundary (log 8). The identifier is SEQ in class 0 (R30, R81),
or the pending direct call (log 13). -/
def Obligations.StepRunsTheDecodedOperation : Prop :=
  (∀ (s : State) (i : Instr), s.terminated = false → s.envBreach = none → s.input.host = none →
    decode [s.fetchOp.setWidth 8] = .ok (i, []) → step s = closeStep (exec i s.applyEnvStores)) ∧
  (∀ s : State, s.bench.request = none → s.fetchOp.toNat = s.seq.toNat) ∧
  (∀ (s : State) (n : BitVec 3), s.bench.request = some n → s.fetchOp.toNat = 8 + n.toNat) ∧
  (∀ (u : State) (i : EnvInput) (rest : List EnvInput), u.env.script = i :: rest →
    closeStep (.next u : Host.Outcome State Fault Refusal) =
      .next { u with env := ⟨rest, u.env.draws⟩ }) ∧
  (∀ u : State, u.env.script = [] →
    closeStep (.next u : Host.Outcome State Fault Refusal) =
      .next { u with env := ⟨[], u.env.draws + 1⟩ })

/-- The environment's own stores of a boundary (R59, R182; logs 24 and 26): the last store to an element is what
it then holds; an element no store names, and every byte outside the stored elements, is unchanged; and nothing
but the storage changes. -/
def Obligations.EnvironmentStoresAreApplied : Prop :=
  ∀ s : State, (∃ m, s.applyEnvStores = { s with fb := m }) ∧
    (∀ (earlier later : List EnvStore) (h : Handle) (idx : ElemIdx) (v : Pixel),
      s.input.stores = earlier ++ ⟨h, idx, v⟩ :: later →
      (∀ st ∈ later, st.handle ≠ h ∨ st.index ≠ idx) → s.applyEnvStores.fbRead h idx = some v) ∧
    (∀ (h : Handle) (idx : ElemIdx), (∀ st ∈ s.input.stores, st.handle ≠ h ∨ st.index ≠ idx) →
      s.applyEnvStores.fbRead h idx = s.fbRead h idx) ∧
    (∀ a : Nat, (∀ st ∈ s.input.stores, a ≠ elemAddr st.handle st.index ∧
        a ≠ elemAddr st.handle st.index + 1) → s.applyEnvStores.fb.read a = s.fb.read a)

/-- R190: RESET at a boundary puts every register in the state of R46, issues no transaction, and comes
before the pending operation (R173); a held buffer is abandoned, its contents any value (M6, log 29); the other
frame buffers, the trace and the configuration stay (log 11). -/
def Obligations.ResetActionRestoresRegisters : Prop :=
  ∀ s : State, s.terminated = false → s.envBreach = none → s.input.host = some .reset →
    ∃ t, step s = .next t ∧ t.cfg = s.cfg ∧
      t.rstart = s.cfg.straps.phaseInitR ∧ t.gstart = s.cfg.straps.phaseInitG ∧
      t.bstart = s.cfg.straps.phaseInitB ∧ t.counter = 0 ∧ t.seq = seqAcq ∧ t.cx = 0 ∧ t.cy = 0 ∧
      t.bufv = false ∧ t.buf = none ∧ t.trace = s.trace ∧ BufferAbandoned s.applyEnvStores t ∧
      t.bench = s.bench ∧ t.terminated = false

/-- R155, R182: after TERMINATE no step of SLPG is taken and no transaction issued, for any number of steps: its
state is frozen, and a held buffer is abandoned, its contents any value (M6, log 29). The environment alone goes
on (log 12). -/
def Obligations.TerminateEndsTheRun : Prop :=
  ∀ s : State, s.terminated = false → s.envBreach = none → s.input.host = some .terminate →
    ∃ t, step s = .next t ∧ t.terminated = true ∧ SameMachine s t ∧
      BufferAbandoned s.applyEnvStores t ∧
      ∀ k, ∃ u, Reaches t k u ∧ u.terminated = true ∧ SameMachine s u

/-- M5, R182 (log 20): an environment that stores into the buffer SLPG owns has no move in the model. -/
def Obligations.OwnedBufferTouchedIsRefused : Prop :=
  ∀ (s : State) (h : Handle) (st : EnvStore), s.terminated = false → s.heldBuffer = some h →
    st ∈ s.input.stores → st.handle = h → step s = .refused (.ownedBufferTouched h)

/-- R143: ACQ takes the buffer of an `ok` answer and zeroes the cursor, and raises AllocFail on `fail`, where
it writes nothing but SEQ. -/
def Obligations.AcqFollowsTheAllocator : Prop :=
  encodeOp .acq = 0b0000#4 ∧
  ∀ s : State,
    (∀ h contents, s.input.alloc = some (.ok h contents) →
      ∃ t, exec .acq s = .next t ∧ t.buf = some h ∧ t.bufv = true ∧ t.cx = 0 ∧ t.cy = 0 ∧
        t.seq = seqPix ∧ t.trace = .allocOk h :: s.trace ∧ SamePhases s t ∧ SameOutside s t ∧
        ∀ a, bufferOf a ≠ h → t.fb.read a = s.fb.read a) ∧
    (s.input.alloc = some .fail →
      ∃ t, exec .acq s = .next t ∧ t.seq = seqHalt ∧ t.trace = .allocFail :: s.trace ∧
        SamePhases s t ∧ SameCursor s t ∧ SameBuffer s t ∧ SameOutside s t ∧ SameStorage s t)

/-- R176 in the model's form (log 9): while its transaction is not answered, an operation changes nothing,
and a step changes only the environment's part, so the block stays where it is. -/
def Obligations.UnansweredTransactionsChangeNothing : Prop :=
  (∀ s : State, s.input.alloc = none → exec .acq s = .next s) ∧
  (∀ (s : State) (h : Handle), s.heldBuffer = some h → s.input.submitted = false →
    exec .sub s = .next s) ∧
  (∀ s : State, s.input.waited = false → exec .wait s = .next s) ∧
  (∀ s : State, s.Quiet → s.seq = seqAcq ∧ s.input.alloc = none ∨
      s.seq = seqSub ∧ s.heldBuffer.isSome = true ∧ s.input.submitted = false ∨
      s.seq = seqWait ∧ s.input.waited = false →
    step s = .next s.applyEnvStores.advanceEnv)

/-- R58: after `ok(h)` an element of the buffer holds what the environment put there, and where that is not
known its value is unknown: nothing of an earlier frame is known to be left (log 7). -/
def Obligations.FreshBufferHoldsTheDraw : Prop :=
  ∀ (s : State) (h : Handle) (contents : List (ElemIdx × Pixel)),
    s.input.alloc = some (.ok h contents) →
    ∃ t, exec .acq s = .next t ∧
      (∀ idx, (∀ e ∈ contents, e.1 ≠ idx) → t.fbRead h idx = none) ∧
      (∀ idx v, contents.Pairwise (fun a b => a.1 ≠ b.1) → (idx, v) ∈ contents →
        idx.toNat < s.cfg.straps.stride * s.cfg.straps.vres → t.fbRead h idx = some v)

/-- R174, R170: entering HALT. The step whose `Alloc()` fails changes SEQ alone among the registers, stores
nothing and submits nothing; the run then has the fault outcome AllocFail, cause code 1. -/
def Obligations.AllocFailEntersHalt : Prop :=
  ∀ s : State, s.Quiet → s.seq = seqAcq → s.input.alloc = some .fail →
    ∃ t, step s = .next t ∧ t.seq = seqHalt ∧ t.runFault = some .allocFail ∧
      Cause.code .allocFail = 1 ∧ SamePhases s t ∧ SameCursor s t ∧ SameBuffer s t ∧
      t.cfg = s.cfg ∧ SameStorage s.applyEnvStores t ∧ t.trace = .allocFail :: s.trace

/-- R148 in the model's form (log 19): HALT leaves the state unchanged, and only RESET leaves HALT: any other
step there keeps every register and issues no transaction. HALT is the fault outcome of the run, and there, under the invariant,
BUFV = 0 and CX = CY = 0. -/
def Obligations.HaltIsAbsorbing : Prop :=
  encodeOp .halt = 0b0101#4 ∧
  (∀ s, exec .halt s = .next s) ∧
  (∀ s t : State, s.seq = seqHalt → step s = .next t → s.input.host ≠ some .reset →
    t.seq = seqHalt ∧ SamePhases s t ∧ SameCursor s t ∧ SameBuffer s t ∧ t.cfg = s.cfg ∧
      t.trace = s.trace) ∧
  (∀ s : State, s.seq = seqHalt → s.runFault = some .allocFail ∧
    (s.Inv → s.bufv = false ∧ s.buf = none ∧ s.cx = 0 ∧ s.cy = 0))

/-- R144: PIX stores GEN(CX, CY) at ADDR(CX, CY) of BUF and advances the cursor, y outer and x inner; the
last pixel of a frame zeroes the cursor and sets SEQ to SUB; nothing else changes: every byte of storage
outside the two bytes of the stored element reads as before. -/
def Obligations.PixGeneratesStoresAdvances : Prop :=
  encodeOp .pix = 0b0001#4 ∧
  ∀ (s : State) (h : Handle), s.heldBuffer = some h →
    s.cx.toNat < s.cfg.straps.hres → s.cy.toNat < s.cfg.straps.vres →
    ∃ t, exec .pix s = .next t ∧
      t.trace = .fbWrite h (addr s.cfg s.cx s.cy) (gen s s.cx s.cy) :: s.trace ∧
      t.fbRead h (addr s.cfg s.cx s.cy) = some (gen s s.cx s.cy) ∧
      (∀ a, a ≠ elemAddr h (addr s.cfg s.cx s.cy) → a ≠ elemAddr h (addr s.cfg s.cx s.cy) + 1 →
        t.fb.read a = s.fb.read a) ∧
      SamePhases s t ∧ SameBuffer s t ∧ SameOutside s t ∧
      (if s.cx.toNat + 1 < s.cfg.straps.hres then
        t.cx.toNat = s.cx.toNat + 1 ∧ t.cy = s.cy ∧ t.seq = s.seq
      else if s.cy.toNat + 1 < s.cfg.straps.vres then
        t.cx = 0 ∧ t.cy.toNat = s.cy.toNat + 1 ∧ t.seq = s.seq
      else t.cx = 0 ∧ t.cy = 0 ∧ t.seq = seqSub)

/-- R52: PIX never writes a padding element: one whose column is HRES or more. -/
def Obligations.PixLeavesPaddingAlone : Prop :=
  ∀ (s t : State) (h : Handle) (idx : ElemIdx), s.heldBuffer = some h → exec .pix s = .next t →
    s.cfg.straps.hres ≤ idx.toNat % s.cfg.straps.stride → t.fbRead h idx = s.fbRead h idx

/-- R57: every index that an operation stores to lies inside the buffer that the allocator promises; every element
outside that buffer reads as before a PIX; and a run in which the allocator returns too short a buffer is
refused. -/
def Obligations.PixIndexLiesInTheBuffer : Prop :=
  (∀ (i : Instr) (s t : State) (h : Handle) (idx : ElemIdx) (v : Pixel), exec i s = .next t →
    t.trace = .fbWrite h idx v :: s.trace →
    s.heldBuffer = some h ∧
    idx.toNat ≤ (s.cfg.straps.vres - 1) * s.cfg.straps.stride + s.cfg.straps.hres - 1 ∧
    (s.cfg.straps.vres - 1) * s.cfg.straps.stride + s.cfg.straps.hres - 1 <
      s.cfg.straps.stride * s.cfg.straps.vres) ∧
  (∀ (s t : State) (h h' : Handle) (idx : ElemIdx), s.heldBuffer = some h → exec .pix s = .next t →
    h' ≠ h ∨ s.cfg.straps.stride * s.cfg.straps.vres ≤ idx.toNat →
    t.fbRead h' idx = s.fbRead h' idx) ∧
  (∀ (s : State) (h : Handle), s.input.alloc = some (.short h) →
    exec .acq s = .refused (.shortBuffer h))

/-- M2 and R34: PIX and SUB fault on a BUF without value; that they do so also where BUFV = 1 beside an empty
BUF, and before the cursor is looked at, is the model's choice (log 18). PIX faults on a cursor outside the frame,
against its precondition: the model's choice too (log 17). -/
def Obligations.BrokenPreconditionsFault : Prop :=
  (∀ s : State, s.bufv = false ∨ s.buf = none →
    exec .pix s = .fault .bufHasNoValue ∧ exec .sub s = .fault .bufHasNoValue) ∧
  (∀ (s : State) (h : Handle), s.heldBuffer = some h →
    s.cfg.straps.hres ≤ s.cx.toNat ∨ s.cfg.straps.vres ≤ s.cy.toNat →
    exec .pix s = .fault .cursorOutsideFrame)

/-- R145: SUB submits the buffer, clears BUFV and leaves BUF without a value. -/
def Obligations.SubHandsTheBufferOver : Prop :=
  encodeOp .sub = 0b0010#4 ∧
  ∀ (s : State) (h : Handle), s.heldBuffer = some h → s.input.submitted = true →
    ∃ t, exec .sub s = .next t ∧ t.trace = .submit h :: s.trace ∧ t.bufv = false ∧ t.buf = none ∧
      t.seq = seqAdv ∧ SamePhases s t ∧ SameCursor s t ∧ SameOutside s t ∧ SameStorage s t

/-- R146: ADV adds 11, 7 and 5 to the plasma phases, or 1 to COUNTER, modulo 2^32 (W = 32, R6); the registers
of the inactive generator, and everything else but SEQ, stay. -/
def Obligations.AdvAdvancesTheActivePhases : Prop :=
  encodeOp .adv = 0b0011#4 ∧
  ∀ s : State, ∃ t, exec .adv s = .next t ∧ t.seq = seqWait ∧
    (s.cfg.straps.mode = .plasma →
      t.rstart.toNat = (s.rstart.toNat + 11) % 2 ^ 32 ∧
      t.gstart.toNat = (s.gstart.toNat + 7) % 2 ^ 32 ∧
      t.bstart.toNat = (s.bstart.toNat + 5) % 2 ^ 32 ∧ t.counter = s.counter) ∧
    (s.cfg.straps.mode = .solid →
      t.counter.toNat = (s.counter.toNat + 1) % 2 ^ 32 ∧
      t.rstart = s.rstart ∧ t.gstart = s.gstart ∧ t.bstart = s.bstart) ∧
    SameCursor s t ∧ SameBuffer s t ∧ SameOutside s t ∧ SameStorage s t ∧ t.trace = s.trace

/-- R147: WAIT issues `Wait(FRAME_PERIOD)`, returns to ACQ when the wait has returned, and changes no register
but SEQ. -/
def Obligations.WaitReturnsToAcq : Prop :=
  encodeOp .wait = 0b0100#4 ∧
  ∀ s : State, s.input.waited = true →
    ∃ t, exec .wait s = .next t ∧ t.seq = seqAcq ∧
      t.trace = .wait s.cfg.straps.framePeriod :: s.trace ∧ SamePhases s t ∧ SameCursor s t ∧
      SameBuffer s t ∧ SameOutside s t ∧ SameStorage s t

/-- The eight datapath functions applied directly, through the model's own bench (log 13): each answers a next
state in which only the bench has changed (R110: a function reads or writes no register, and GEN writes none),
with the function's value as the result. -/
def Obligations.DirectCallsAnswerTheFunctions : Prop :=
  ∀ s : State,
    (∃ t, exec .sine s = .next t ∧ PureCall s t ∧
      t.bench.result = some (sine s.cfg s.bench.args.p).toInt) ∧
    (∃ t, exec .arg s = .next t ∧ PureCall s t ∧
      t.bench.result =
        some ((arg s.bench.args.phase s.bench.args.coord s.bench.args.scale).toNat : Int)) ∧
    (∃ t, exec .chan s = .next t ∧ PureCall s t ∧
      t.bench.result =
        some (chan s.cfg s.bench.args.phase s.bench.args.x s.bench.args.y s.bench.args.scale)) ∧
    (∃ t, exec .pack565 s = .next t ∧ PureCall s t ∧
      t.bench.result = some ((pack565 s.bench.args.r s.bench.args.g s.bench.args.b).toNat : Int)) ∧
    (∃ t, exec .plasma s = .next t ∧ PureCall s t ∧
      t.bench.result = some ((plasma s.cfg s.bench.args.x s.bench.args.y s.bench.args.rstart
        s.bench.args.gstart s.bench.args.bstart).toNat : Int)) ∧
    (∃ t, exec .solid s = .next t ∧ PureCall s t ∧
      t.bench.result = some ((solid s.cfg s.bench.args.counter).toNat : Int)) ∧
    (∃ t, exec .addr s = .next t ∧ PureCall s t ∧
      t.bench.result = some ((addr s.cfg s.bench.args.x s.bench.args.y).toNat : Int)) ∧
    (∃ t, exec .gen s = .next t ∧ PureCall s t ∧
      t.bench.result = some ((gen s s.bench.args.x s.bench.args.y).toNat : Int))

/-- R100: SINE is the ROM entry at the non-negative remainder of its argument modulo 256, for every
integer. -/
def Obligations.SineReturnsTheEntry : Prop :=
  encodeOp .sine = 0b1000#4 ∧
  ∀ (c : Config) (p : Int) (i : Fin 256), (i.val : Int) = p % 256 →
    sine c p = c.straps.sineTable.get i

/-- R111: ARG is `floor(((phase + coord·scale) mod 2^32) / 16)`, and only bits 11:4 of the sum reach the sine
ROM. -/
def Obligations.ArgReturnsTheSineArgument : Prop :=
  encodeOp .arg = 0b1001#4 ∧
  (∀ (phase : Word) (coord : Coord) (scale : Word),
    (arg phase coord scale).toNat =
      (phase.toNat + coord.toNat * scale.toNat) % 2 ^ 32 / 16) ∧
  (∀ (c : Config) (phase scale : Word) (coord : Coord) (i : Fin 256),
    i.val = (phase.toNat + coord.toNat * scale.toNat) % 4096 / 16 →
    sine c (arg phase coord scale).toNat = c.straps.sineTable.get i)

/-- R113: CHAN is `floor(a·b / 128)` of the two exact sine values, which lies in [−127, 126]; it is symmetric in
x and y; and under the masks 0x1F and 0x3F it keeps bits 11:7 and 12:7 of the 16-bit product. -/
def Obligations.ChanReturnsTheScaledProduct : Prop :=
  encodeOp .chan = 0b1010#4 ∧
  (∀ (c : Config) (phase : Word) (x y : Coord) (scale : Word),
    chan c phase x y scale = Int.fdiv
      ((sine c (arg phase x scale).toNat).toInt * (sine c (arg phase y scale).toNat).toInt) 128 ∧
    -127 ≤ chan c phase x y scale ∧ chan c phase x y scale ≤ 126 ∧
    chan c phase x y scale = chan c phase y x scale) ∧
  (∀ p : BitVec 16, maskLow (asr p.toInt prodShift) 5 = (p.extractLsb' 7 5).toNat ∧
    maskLow (asr p.toInt prodShift) 6 = (p.extractLsb' 7 6).toNat)

/-- R114: PACK565 is `(r mod 32)·2048 + (g mod 64)·32 + (b mod 32)`, with the three fields in bits 15:11, 10:5
and 4:0, for all integers. -/
def Obligations.PackMasksThenShifts : Prop :=
  encodeOp .pack565 = 0b1011#4 ∧
  ∀ r g b : Int,
    ((pack565 r g b).toNat : Int) = r % 32 * 2048 + g % 64 * 32 + b % 32 ∧
    (pack565 r g b).extractLsb' 11 5 = BitVec.ofInt 5 r ∧
    (pack565 r g b).extractLsb' 5 6 = BitVec.ofInt 6 g ∧
    (pack565 r g b).extractLsb' 0 5 = BitVec.ofInt 5 b

/-- R115: PLASMA is PACK565 of the three independent channels, with the straps as scales; and with all phases 0
it is 0 in the first row and the first column. -/
def Obligations.PlasmaPacksThreeChannels : Prop :=
  encodeOp .plasma = 0b1100#4 ∧
  (∀ (c : Config) (x y : Coord) (rstart gstart bstart : Word),
    plasma c x y rstart gstart bstart = pack565 (chan c rstart x y c.straps.rscale)
      (chan c gstart x y c.straps.gscale) (chan c bstart x y c.straps.bscale)) ∧
  (∀ (c : Config) (x y : Coord), x = 0 ∨ y = 0 → plasma c x y 0 0 0 = 0)

/-- R130: SOLID is `PALETTE[counter mod 8]` as stored. -/
def Obligations.SolidReturnsThePaletteEntry : Prop :=
  encodeOp .solid = 0b1101#4 ∧
  ∀ (c : Config) (counter : Word) (i : Fin 8), i.val = counter.toNat % 8 →
    solid c counter = c.straps.palette.get i

/-- R142: ADDR is `y·STRIDE + x`, never overflows its 32 bits, and is injective on the visible rectangle. -/
def Obligations.AddrReturnsTheIndex : Prop :=
  encodeOp .addr = 0b1110#4 ∧
  (∀ (c : Config) (x y : Coord), (addr c x y).toNat = y.toNat * c.straps.stride + x.toNat) ∧
  (∀ (c : Config) (x y x' y' : Coord), Visible c x y → Visible c x' y' →
    addr c x y = addr c x' y' → x = x' ∧ y = y')

/-- R141: GEN is the pixel of the generator that MODE selects, at the current phase. -/
def Obligations.GenReturnsTheActivePixel : Prop :=
  encodeOp .gen = 0b1111#4 ∧
  ∀ (s : State) (x y : Coord),
    (s.cfg.straps.mode = .plasma → gen s x y = plasma s.cfg x y s.rstart s.gstart s.bstart) ∧
    (s.cfg.straps.mode = .solid → gen s x y = solid s.cfg s.counter)

/-- R103 (L1) to (L5) for every legal table, and (L6) to (L8) for the default table. -/
def Obligations.SineLaws : Prop :=
  (∀ (c : Config) (p k : Int), sine c (p + 256 * k) = sine c p) ∧
  (∀ (c : Config) (p : Int), (sine c (p + 128)).toInt = -(sine c p).toInt) ∧
  (∀ c : Config, (sine c 0).toInt = 0 ∧ (sine c 64).toInt = 127 ∧ (sine c 128).toInt = 0 ∧
    (sine c 192).toInt = -127) ∧
  (∀ (c : Config) (p : Int), -127 ≤ (sine c p).toInt ∧ (sine c p).toInt ≤ 127) ∧
  (∀ (c : Config) (p : Int), ((List.range 256).map fun k : Nat => (sine c (p + (k : Int))).toInt).sum = 0) ∧
  (∀ c : Config, c.straps.sineTable = sineDefault →
    (∀ j : Nat, j ≤ 64 → sine c (64 - (j : Int)) = sine c (64 + (j : Int))) ∧
    (∀ i : Nat, i < 256 → ((sine c i).toInt = 127 ↔ 61 ≤ i ∧ i ≤ 67)) ∧
    (∀ i : Nat, i < 256 → ((sine c i).toInt = -127 ↔ 189 ≤ i ∧ i ≤ 195)) ∧
    (∀ i : Nat, i < 64 → (sine c i).toInt ≤ (sine c ((i : Int) + 1)).toInt))

/-- R112: the multiplier inside CHAN is exact for all 8-bit inputs, and for table entries the product lies in
[−16129, 16129]. -/
def Obligations.SineProductIsExact : Prop :=
  (∀ a b : BitVec 8, (sineProduct a b).toInt = a.toInt * b.toInt) ∧
  (∀ (c : Config) (p q : Int), -16129 ≤ (sineProduct (sine c p) (sine c q)).toInt ∧
    (sineProduct (sine c p) (sine c q)).toInt ≤ 16129)

/-- R116 (P6): adding 2048 to a channel's phase leaves the channel unchanged. -/
def Obligations.ChannelHalfPeriod : Prop :=
  ∀ (c : Config) (phase : Word) (x y : Coord) (scale : Word),
    chan c (phase + 2048) x y scale = chan c phase x y scale

/-- R116 (P3), (P4), (P6): the plasma pixel has period 4096, and 2048, in each phase; it is symmetric about
the diagonal; and frame k + 2048 shows the same picture as frame k. -/
def Obligations.PlasmaPeriodsAndSymmetry : Prop :=
  ∀ (c : Config) (x y : Coord) (r g b : Word),
    plasma c x y (r + 4096) g b = plasma c x y r g b ∧
    plasma c x y r (g + 4096) b = plasma c x y r g b ∧
    plasma c x y r g (b + 4096) = plasma c x y r g b ∧
    plasma c x y (r + 2048 * 11) (g + 2048 * 7) (b + 2048 * 5) = plasma c x y r g b ∧
    plasma c x y r g b = plasma c y x r g b

/-- R116 (P3), D3: the pixel is the same for every phase width W of at least 12: it depends on phases and
scales only modulo 4096. -/
def Obligations.PlasmaIsIndependentOfTheWidth : Prop :=
  ∀ (w : Nat) (c : Config) (x y : Coord) (r g b rs gs bs : Nat), 12 ≤ w →
    plasmaAt w c x y (BitVec.ofNat w r) (BitVec.ofNat w g) (BitVec.ofNat w b)
      (BitVec.ofNat w rs) (BitVec.ofNat w gs) (BitVec.ofNat w bs) =
    plasmaAt 12 c x y (BitVec.ofNat 12 r) (BitVec.ofNat 12 g) (BitVec.ofNat 12 b)
      (BitVec.ofNat 12 rs) (BitVec.ofNat 12 gs) (BitVec.ofNat 12 bs)

/-- R132 (S2), the generator's side: after k phase advances from COUNTER = 0, GEN gives `PALETTE[k mod 8]` at
every coordinate, for every k. -/
def Obligations.SolidGenAfterAdvances : Prop :=
  ∀ (s : State) (k : Nat) (x y : Coord) (i : Fin 8), s.cfg.straps.mode = .solid → s.counter = 0 →
    i.val = k % 8 →
    gen ((fun u : State => u.advancePhases u.cfg.straps.mode)^[k] s) x y = s.cfg.straps.palette.get i

/-- R45 I5: after k advances the active phases have moved by k deltas modulo 2^32, and the inactive ones
not at all, for every k. -/
def Obligations.PhasesCountTheFrames : Prop :=
  ∀ (s : State) (k : Nat),
    (s.cfg.straps.mode = .plasma →
      ((fun u : State => u.advancePhases u.cfg.straps.mode)^[k] s).rstart.toNat =
        (s.rstart.toNat + 11 * k) % 2 ^ 32 ∧
      ((fun u : State => u.advancePhases u.cfg.straps.mode)^[k] s).gstart.toNat =
        (s.gstart.toNat + 7 * k) % 2 ^ 32 ∧
      ((fun u : State => u.advancePhases u.cfg.straps.mode)^[k] s).bstart.toNat =
        (s.bstart.toNat + 5 * k) % 2 ^ 32 ∧
      ((fun u : State => u.advancePhases u.cfg.straps.mode)^[k] s).counter = s.counter) ∧
    (s.cfg.straps.mode = .solid →
      ((fun u : State => u.advancePhases u.cfg.straps.mode)^[k] s).counter.toNat =
        (s.counter.toNat + k) % 2 ^ 32 ∧
      ((fun u : State => u.advancePhases u.cfg.straps.mode)^[k] s).rstart = s.rstart ∧
      ((fun u : State => u.advancePhases u.cfg.straps.mode)^[k] s).gstart = s.gstart ∧
      ((fun u : State => u.advancePhases u.cfg.straps.mode)^[k] s).bstart = s.bstart)

/-- R151: the order in which two visible pixels of a buffer are stored leaves the same storage. -/
def Obligations.VisibleStoresCommute : Prop :=
  ∀ (m : Memory) (c : Config) (h : Handle) (x y x' y' : Coord) (v v' : Pixel), Memory.wf m →
    Visible c x y → Visible c x' y' → (x, y) ≠ (x', y') →
    (m.writeElem c.straps.byteOrder h (addr c x y) v).writeElem c.straps.byteOrder h (addr c x' y') v' =
    (m.writeElem c.straps.byteOrder h (addr c x' y') v').writeElem c.straps.byteOrder h (addr c x y) v

/-- R46: the state after reset, for every configuration: the phases hold their reset values, COUNTER, SEQ,
the cursor and BUFV are 0, BUF has no value, and the straps and ROMs are the configured ones. -/
def Obligations.ResetValues : Prop :=
  ∀ (cfg : Config) (env : Env), (State.resetWith cfg env).rstart = cfg.straps.phaseInitR ∧
    (State.resetWith cfg env).gstart = cfg.straps.phaseInitG ∧
    (State.resetWith cfg env).bstart = cfg.straps.phaseInitB ∧
    (State.resetWith cfg env).counter = 0 ∧ (State.resetWith cfg env).seq = seqAcq ∧
    (State.resetWith cfg env).cx = 0 ∧ (State.resetWith cfg env).cy = 0 ∧
    (State.resetWith cfg env).bufv = false ∧ (State.resetWith cfg env).buf = none ∧
    (State.resetWith cfg env).cfg = cfg

/-- R45: the state after reset meets the invariant, for every configuration and environment, and holds no
buffer that the transactions do not give it. The machine's own reset state is that of the installed
configuration, with the phases at the default 0 (log 3, the model's choice). -/
def Obligations.ResetMeetsTheInvariant : Prop :=
  State.reset.Inv ∧ State.reset.FrameFilled ∧ State.reset.OwnsWhatItHolds ∧
  (∀ (cfg : Config) (env : Env), (State.resetWith cfg env).Inv) ∧
  State.reset = State.resetWith Config.installed State.reset.env ∧
  State.reset.rstart = 0 ∧ State.reset.gstart = 0 ∧ State.reset.bstart = 0

/-- R45 I1 to I4: every step keeps the invariant, with the storage in canonical form. -/
def Obligations.StepKeepsTheInvariant : Prop :=
  ∀ s t : State, s.Inv → step s = .next t → t.Inv

/-- R45 I6 and R61: every step keeps the frame's content: in PIX the visible elements before the cursor, and at
Submit all of them, hold the generator's pixels at the frame's phase. -/
def Obligations.StepKeepsTheFrameContent : Prop :=
  ∀ s t : State, s.Inv → s.FrameFilled → step s = .next t → t.FrameFilled

/-- R59, R195: every step keeps SLPG's ownership duty: a store or a Submit names the buffer of the last `ok`
answer, and none follows its Submit. -/
def Obligations.NoStoreAfterSubmit : Prop :=
  ∀ s t : State, s.Inv → s.OwnsWhatItHolds → step s = .next t → t.OwnsWhatItHolds

/-- R37, R192: no step, RESET among them, changes the configuration or a ROM. -/
def Obligations.ConfigurationNeverChanges : Prop :=
  ∀ s t : State, step s = .next t → t.cfg = s.cfg

/-- R25 (b), (c), R196: apart from RESET only ADV writes the phase registers. -/
def Obligations.OnlyAdvWritesThePhases : Prop :=
  ∀ s t : State, step s = .next t → s.input.host ≠ some .reset → s.fetched ≠ .adv → SamePhases s t

/-- R25 (d): apart from RESET no step writes the registers of the inactive generator. -/
def Obligations.InactivePhasesNeverChange : Prop :=
  ∀ s t : State, step s = .next t → s.input.host ≠ some .reset →
    (s.cfg.straps.mode = .plasma → t.counter = s.counter) ∧
    (s.cfg.straps.mode = .solid →
      t.rstart = s.rstart ∧ t.gstart = s.gstart ∧ t.bstart = s.bstart)

/-- R149, R152: a step issues at most one transaction, and each kind only in its own state: Alloc in ACQ,
FbWrite to BUF in PIX, Submit of BUF in SUB, Wait in WAIT. -/
def Obligations.TransactionsFollowTheSequencer : Prop :=
  ∀ s t : State, step s = .next t → t.trace = s.trace ∨
    ∃ tr, t.trace = tr :: s.trace ∧
      match tr with
      | .allocOk h => s.seq = seqAcq ∧ t.heldBuffer = some h
      | .allocFail => s.seq = seqAcq ∧ t.seq = seqHalt
      | .fbWrite h idx v => s.seq = seqPix ∧ s.heldBuffer = some h ∧
          idx = addr s.cfg s.cx s.cy ∧ v = gen s s.cx s.cy
      | .submit h => s.seq = seqSub ∧ s.heldBuffer = some h ∧ t.heldBuffer = none
      | .wait p => s.seq = seqWait ∧ p = s.cfg.straps.framePeriod

/-- R149: the transition table. At a boundary where SLPG's own operation runs, the next value of SEQ is the
one of the table, or SEQ stays while the environment has not answered (R176). -/
def Obligations.TransitionTable : Prop :=
  ∀ s t : State, s.Quiet → step s = .next t →
    (s.seq = seqAcq ∧ ((s.input.alloc = none ∧ t.seq = seqAcq) ∨
      (s.input.alloc = some .fail ∧ t.seq = seqHalt) ∨
      ((∃ h contents, s.input.alloc = some (.ok h contents)) ∧ t.seq = seqPix))) ∨
    (s.seq = seqPix ∧ t.seq = if s.cx.toNat + 1 < s.cfg.straps.hres ∨
      s.cy.toNat + 1 < s.cfg.straps.vres then seqPix else seqSub) ∨
    (s.seq = seqSub ∧ t.seq = if s.input.submitted then seqAdv else seqSub) ∨
    (s.seq = seqAdv ∧ t.seq = seqWait) ∨
    (s.seq = seqWait ∧ t.seq = if s.input.waited then seqAcq else seqWait) ∨
    (s.seq = seqHalt ∧ t.seq = seqHalt)

/-- R153: from any state that meets the invariant, other than HALT, with no direct call pending, and an
environment that answers every transaction in progress and keeps its duties, SLPG reaches the next Submit or HALT
within HRES·VRES + 4 steps. The environment may store into every buffer but the one SLPG then holds. -/
def Obligations.NextSubmitOrHaltIsReached : Prop :=
  ∀ s : State, s.Inv → s.terminated = false → s.bench.request = none → s.seq ≠ seqHalt →
    (∀ k u, k < s.cfg.straps.hres * s.cfg.straps.vres + 4 → Reaches s k u →
      u.Undisturbed ∧ u.Answered) →
    ∃ k t, k ≤ s.cfg.straps.hres * s.cfg.straps.vres + 4 ∧ Reaches s k t ∧ EndedSince s t

/-- R201, R153: under the premises F-alloc, F-submit and F-wait, and the environment's duties, at every state of the
run until its frame is submitted or the machine halts, that point is reached, however late the answers come. -/
def Obligations.FairIterationsSubmitOrHalt : Prop :=
  ∀ s : State, s.Inv → s.terminated = false → s.bench.request = none →
    (∀ k u, Reaches s k u → (∀ j v, j ≤ k → Reaches s j v → ¬EndedSince s v) →
      u.Undisturbed ∧ u.FAlloc ∧ u.FSubmit ∧ u.FWait) →
    ∃ k t, Reaches s k t ∧ EndedSince s t

/-- R149, R150, R152: a fault-free iteration. From ACQ, with `ok(h)`, every transaction in progress answered and
the environment's duties kept, HRES·VRES + 1 steps lead to the Submit: there every visible element of the buffer
holds the generator's pixel at the phase the iteration began with, and every padding element what it held when the
buffer was acquired. Exactly HRES·VRES + 4 steps bring the block back to ACQ: the transactions are Alloc, the stores
of every visible pixel in raster order, Submit and Wait, and the phases have advanced once. -/
def Obligations.OneIterationRendersOneFrame : Prop :=
  ∀ (s : State) (h : Handle) (contents : List (ElemIdx × Pixel)), s.Inv → s.terminated = false →
    s.bench.request = none → s.seq = seqAcq → s.input.alloc = some (.ok h contents) →
    (∀ k u, k < s.cfg.straps.hres * s.cfg.straps.vres + 4 → Reaches s k u →
      u.Undisturbed ∧ u.Answered) →
    ∃ u t, Reaches s (s.cfg.straps.hres * s.cfg.straps.vres + 1) u ∧
      u.seq = seqSub ∧ u.heldBuffer = some h ∧
      (∀ x y, Visible s.cfg x y → u.fbRead h (addr s.cfg x y) = some (gen s x y)) ∧
      (∀ w, exec .acq s.applyEnvStores = .next w → ∀ idx : ElemIdx,
        s.cfg.straps.hres ≤ idx.toNat % s.cfg.straps.stride → u.fbRead h idx = w.fbRead h idx) ∧
      Reaches s (s.cfg.straps.hres * s.cfg.straps.vres + 4) t ∧
      t.seq = seqAcq ∧ SamePhases (s.advancePhases s.cfg.straps.mode) t ∧
      t.trace = .wait s.cfg.straps.framePeriod :: .submit h ::
        (fillTransactions s h ++ .allocOk h :: s.trace)
end

