-- ==== Sys2Proof/Laws/Installed.lean ====
section
/-! SUPPORT. The installed configuration leaves no OPEN parameter out: every legal configuration that has the spec's default table and phases is what `legalise` makes of some raw record (log 3). -/

namespace Sys2Proof.Laws

/-- The named checks refuse exactly what R7 excludes. -/
theorem check_none_iff (c : Straps) : c.check = none ↔ c.Legal := by
  constructor
  · intro h
    simp only [Straps.check] at h
    split at h <;> [cases h; skip]
    split at h <;> [cases h; skip]
    split at h <;> [cases h; skip]
    split at h <;> [cases h; skip]
    split at h <;> [cases h; skip]
    split at h <;> [cases h; skip]
    simp_all only [not_not]
    constructor <;> assumption
  · intro h
    rw [Straps.check, if_neg (not_not.2 h.hres), if_neg (not_not.2 h.stride),
      if_neg (not_not.2 h.vres), if_neg (not_not.2 h.anchors),
      if_neg (not_not.2 h.antisymmetric), if_neg (not_not.2 h.approx)]

theorem legalise_covers (c : Config) (ht : c.straps.sineTable = Machine.sineDefault)
    (hr : c.straps.phaseInitR = 0) (hg : c.straps.phaseInitG = 0) (hb : c.straps.phaseInitB = 0) :
    ∃ r : Straps, r.legalise = c.straps := by
  obtain ⟨h1, h2, h3, -, -, -⟩ := c.legal
  simp only [Straps.HresOk, Straps.StrideOk, Straps.VresOk] at h1 h2 h3
  generalize c.straps = s at *
  refine ⟨{ s with hres := s.hres - 1, vres := s.vres - 1, stride := s.stride - s.hres }, ?_⟩
  have e1 : (s.hres - 1) % 65535 + 1 = s.hres := by omega
  have e2 : (s.vres - 1) % 65535 + 1 = s.vres := by omega
  have e3 : s.hres + (s.stride - s.hres) % (65535 - (s.hres - 1) % 65535) = s.stride := by
    have e : (s.hres - 1) % 65535 = s.hres - 1 := by omega
    rw [e, Nat.mod_eq_of_lt (by omega)]
    omega
  rw [Straps.legalise, e1, e2, e3]
  cases s
  simp_all

end Sys2Proof.Laws
end

