-- ==== Sys2Proof/Laws/Memory.lean ====
section
/-! SUPPORT. The laws of the frame-buffer storage: read after write for bytes and for elements, and that every operation keeps the canonical form. -/

namespace Sys2Proof.Machine

@[simp] theorem Memory.read_nil (a : Nat) : Memory.read [] a = none := rfl

theorem Memory.read_write_self (m : Memory) (a : Nat) (b : Byte) : (m.write a b).read a = some b := by
  induction m with
  | nil => simp [Memory.write, Memory.read]
  | cons c m ih =>
    obtain ⟨x, v⟩ := c
    simp only [Memory.write]
    split
    · simp [Memory.read]
    · split
      · simp [Memory.read]
      · have : x ≠ a := by omega
        simp [Memory.read, this, ih]

theorem Memory.read_write_other (m : Memory) {a a' : Nat} (b : Byte) (h : a' ≠ a) :
    (m.write a b).read a' = m.read a' := by
  induction m with
  | nil => simp [Memory.write, Memory.read, h.symm]
  | cons c m ih =>
    obtain ⟨x, v⟩ := c
    simp only [Memory.write]
    split
    · simp [Memory.read, h.symm]
    · split
      · next h1 h2 => subst h2; simp [Memory.read, h.symm]
      · simp only [Memory.read, ih]

/-- Every address of the written memory is the written one or was listed before. -/
theorem Memory.mem_write {m : Memory} {a : Nat} {b : Byte} {c : Host.Cell}
    (h : c ∈ m.write a b) : c = (a, b) ∨ c ∈ m := by
  induction m with
  | nil => simpa [Memory.write] using h
  | cons d m ih =>
    obtain ⟨x, v⟩ := d
    simp only [Memory.write] at h
    split at h
    · simpa using h
    · split at h
      · rcases List.mem_cons.1 h with h | h
        · exact .inl h
        · exact .inr (List.mem_cons_of_mem _ h)
      · rcases List.mem_cons.1 h with h | h
        · exact .inr (h ▸ List.mem_cons_self)
        · exact (ih h).imp_right (List.mem_cons_of_mem _)

theorem Memory.wf_write {m : Memory} (hm : m.wf) (a : Nat) (b : Byte) : (m.write a b).wf := by
  induction m with
  | nil => simp [Memory.write]
  | cons c m ih =>
    obtain ⟨x, v⟩ := c
    obtain ⟨hx, hm'⟩ := List.pairwise_cons.1 hm
    simp only [Memory.write]
    split
    · next h =>
      refine List.pairwise_cons.2 ⟨fun d hd => ?_, hm⟩
      rcases List.mem_cons.1 hd with rfl | hd
      · exact h
      · exact Nat.lt_trans h (hx d hd)
    · split
      · next h => subst h; exact List.pairwise_cons.2 ⟨hx, hm'⟩
      · refine List.pairwise_cons.2 ⟨fun d hd => ?_, ih hm'⟩
        rcases Memory.mem_write hd with rfl | hd
        · show x < a
          omega
        · exact hx d hd

theorem Memory.wf_writeElem {m : Memory} (hm : m.wf) (o : ByteOrder) (h : Handle) (idx : ElemIdx)
    (v : Pixel) : (m.writeElem o h idx v).wf :=
  Memory.wf_write (Memory.wf_write hm _ _) _ _

theorem Memory.wf_forget {m : Memory} (hm : m.wf) (h : Handle) : (m.forget h).wf :=
  List.Pairwise.filter _ hm

theorem Memory.wf_fill {m : Memory} (hm : m.wf) (o : ByteOrder) (h : Handle) (n : Nat)
    (c : List (ElemIdx × Pixel)) : (m.fill o h n c).wf := by
  induction c generalizing m with
  | nil => exact hm
  | cons e c ih =>
    obtain ⟨idx, v⟩ := e
    simp only [Memory.fill]
    split
    · exact ih (Memory.wf_writeElem hm o h idx v)
    · exact ih hm

theorem Memory.wf_applyStores {m : Memory} (hm : m.wf) (o : ByteOrder) (st : List EnvStore) :
    (m.applyStores o st).wf := by
  induction st generalizing m with
  | nil => exact hm
  | cons e st ih => exact ih (Memory.wf_writeElem hm o e.handle e.index e.value)

/-- Distinct elements have disjoint bytes. -/
theorem elemAddr_inj {h h' : Handle} {i i' : ElemIdx} {k k' : Nat} (hk : k < 2) (hk' : k' < 2)
    (e : elemAddr h i + k = elemAddr h' i' + k') : h = h' ∧ i = i' ∧ k = k' := by
  have hi := i.isLt
  have hi' := i'.isLt
  simp only [elemAddr] at e
  have hh : @Eq Nat h h' := by omega
  subst hh
  have hii : i.toNat = i'.toNat := by omega
  exact ⟨rfl, BitVec.eq_of_toNat_eq hii, by omega⟩

/-- Every byte of an element lies in its buffer. -/
theorem bufferOf_elemAddr (h : Handle) (i : ElemIdx) {k : Nat} (hk : k < 2) :
    bufferOf (elemAddr h i + k) = h := by
  have hi := i.isLt
  show @Eq Nat ((h * 2 ^ 33 + 2 * i.toNat + k) / 2 ^ 33) h
  omega

theorem joinBytes_split (o : ByteOrder) (v : Pixel) :
    joinBytes o (lowerByte o v) (upperByte o v) = v := by
  cases o <;>
    (apply BitVec.eq_of_getLsbD_eq; intro i hi
     simp only [joinBytes, lowerByte, upperByte, BitVec.getLsbD_append, BitVec.getLsbD_extractLsb']
     by_cases h8 : i < 8
     · simp [h8]
     · have : i - 8 < 8 := by omega
       have h2 : 8 + (i - 8) = i := by omega
       simp [h8, this, h2])

/-- A byte outside the stored element reads as before. -/
theorem Memory.read_writeElem_other (m : Memory) (o : ByteOrder) (h : Handle) (idx : ElemIdx)
    (v : Pixel) {a : Nat} (h0 : a ≠ elemAddr h idx) (h1 : a ≠ elemAddr h idx + 1) :
    (m.writeElem o h idx v).read a = m.read a := by
  rw [Memory.writeElem, Memory.read_write_other _ _ h1, Memory.read_write_other _ _ h0]

theorem Memory.readElem_writeElem_self (m : Memory) (o : ByteOrder) (h : Handle) (idx : ElemIdx)
    (v : Pixel) : (m.writeElem o h idx v).readElem o h idx = some v := by
  have h0 : (m.writeElem o h idx v).read (elemAddr h idx) = some (lowerByte o v) := by
    rw [Memory.writeElem, Memory.read_write_other _ _ (Nat.ne_of_lt (Nat.lt_succ_self _)),
      Memory.read_write_self]
  have h1 : (m.writeElem o h idx v).read (elemAddr h idx + 1) = some (upperByte o v) := by
    rw [Memory.writeElem, Memory.read_write_self]
  simp only [Memory.readElem, h0, h1, joinBytes_split]

theorem Memory.readElem_writeElem_other (m : Memory) (o : ByteOrder) {h h' : Handle}
    {idx idx' : ElemIdx} (v : Pixel) (hne : h' ≠ h ∨ idx' ≠ idx) :
    (m.writeElem o h idx v).readElem o h' idx' = m.readElem o h' idx' := by
  have key : ∀ k k', k < 2 → k' < 2 → elemAddr h' idx' + k ≠ elemAddr h idx + k' := by
    intro k k' hk hk' e
    obtain ⟨e1, e2, -⟩ := elemAddr_inj hk hk' e
    exact hne.elim (· e1) (· e2)
  have k00 := key 0 0 (by decide) (by decide)
  have k01 := key 0 1 (by decide) (by decide)
  have k10 := key 1 0 (by decide) (by decide)
  have k11 := key 1 1 (by decide) (by decide)
  rw [Nat.add_zero (elemAddr h' idx')] at k00 k01
  rw [Nat.add_zero (elemAddr h idx)] at k00 k10
  have h0 := Memory.read_writeElem_other m o h idx v k00 k01
  have h1 := Memory.read_writeElem_other m o h idx v k10 k11
  simp only [Memory.readElem, h0, h1]

/-- The environment's stores to other elements leave an element alone. -/
theorem Memory.readElem_applyStores_unnamed (m : Memory) (o : ByteOrder) {h : Handle} {idx : ElemIdx}
    {st : List EnvStore} (hst : ∀ e ∈ st, e.handle ≠ h ∨ e.index ≠ idx) :
    (m.applyStores o st).readElem o h idx = m.readElem o h idx := by
  induction st generalizing m with
  | nil => rfl
  | cons e st ih =>
    rw [Memory.applyStores, ih _ fun e' he' => hst e' (List.mem_cons_of_mem _ he'),
      Memory.readElem_writeElem_other _ _ _
        ((hst e List.mem_cons_self).imp Ne.symm Ne.symm)]

/-- The environment's stores into other buffers leave an element alone. -/
theorem Memory.readElem_applyStores_other (m : Memory) (o : ByteOrder) {h : Handle} (idx : ElemIdx)
    {st : List EnvStore} (hst : ∀ e ∈ st, e.handle ≠ h) :
    (m.applyStores o st).readElem o h idx = m.readElem o h idx :=
  Memory.readElem_applyStores_unnamed m o fun e he => .inl (hst e he)

/-- The last of the environment's stores to an element is what the element holds. -/
theorem Memory.readElem_applyStores_last (m : Memory) (o : ByteOrder) (pre : List EnvStore)
    (e : EnvStore) {post : List EnvStore}
    (hpost : ∀ e' ∈ post, e'.handle ≠ e.handle ∨ e'.index ≠ e.index) :
    (m.applyStores o (pre ++ e :: post)).readElem o e.handle e.index = some e.value := by
  induction pre generalizing m with
  | nil =>
    rw [List.nil_append, Memory.applyStores, Memory.readElem_applyStores_unnamed _ _ hpost,
      Memory.readElem_writeElem_self]
  | cons _ pre ih => exact ih _

/-- What is listed of a forgotten buffer: nothing. Other buffers keep their bytes. -/
theorem Memory.read_forget (m : Memory) (h : Handle) (a : Nat) :
    (m.forget h).read a = if bufferOf a = h then none else m.read a := by
  induction m with
  | nil => simp [Memory.forget]
  | cons c m ih =>
    obtain ⟨x, v⟩ := c
    simp only [Memory.forget] at ih
    by_cases hx : bufferOf x = h <;> by_cases hxa : x = a
    · subst hxa; simp [Memory.forget, hx] at ih ⊢; simpa using ih
    · simp [Memory.forget, hx, Memory.read, hxa] at ih ⊢; simpa using ih
    · subst hxa; simp [Memory.forget, hx, Memory.read]
    · simp [Memory.forget, hx, Memory.read, hxa] at ih ⊢; simpa using ih

/-- Filling a buffer leaves the bytes of every other buffer alone. -/
theorem Memory.read_fill_other (m : Memory) (o : ByteOrder) (h : Handle) (n : Nat)
    (c : List (ElemIdx × Pixel)) {a : Nat} (ha : bufferOf a ≠ h) :
    (m.fill o h n c).read a = m.read a := by
  induction c generalizing m with
  | nil => rfl
  | cons e c ih =>
    obtain ⟨idx, v⟩ := e
    rw [Memory.fill, ih]
    split
    · have h0 := bufferOf_elemAddr h idx (k := 0) (by decide)
      have h1 := bufferOf_elemAddr h idx (k := 1) (by decide)
      rw [Nat.add_zero] at h0
      exact Memory.read_writeElem_other m o h idx v (fun e => ha (e ▸ h0)) fun e => ha (e ▸ h1)
    · rfl

/-- Two memories in canonical form that read alike are equal. -/
theorem Memory.ext {m m' : Memory} (hm : m.wf) (hm' : m'.wf) (h : ∀ a, m.read a = m'.read a) :
    m = m' := by
  have lo : ∀ {m : Memory} {x : Nat}, (∀ c ∈ m, x < c.1) → m.read x = none := by
    intro m x hx
    induction m with
    | nil => rfl
    | cons c m ih =>
      obtain ⟨y, v⟩ := c
      have := hx _ List.mem_cons_self
      have hne : y ≠ x := by simp at this; omega
      simp [Memory.read, hne, ih fun c hc => hx c (List.mem_cons_of_mem _ hc)]
  induction m generalizing m' with
  | nil =>
    cases m' with
    | nil => rfl
    | cons c m' => obtain ⟨y, v⟩ := c; simpa [Memory.read] using h y
  | cons c m ih =>
    obtain ⟨x, v⟩ := c
    obtain ⟨hx, hmt⟩ := List.pairwise_cons.1 hm
    cases m' with
    | nil => simpa [Memory.read] using h x
    | cons c' m' =>
      obtain ⟨y, w⟩ := c'
      obtain ⟨hy, hmt'⟩ := List.pairwise_cons.1 hm'
      have hxy : x = y := by
        rcases Nat.lt_trichotomy x y with hlt | heq | hgt
        · have h1 := h x
          have hn : Memory.read m' x = none := lo fun c hc => Nat.lt_trans hlt (hy c hc)
          have : y ≠ x := by omega
          simp [Memory.read, this, hn] at h1
        · exact heq
        · have h1 := h y
          have hn : Memory.read m y = none := lo fun c hc => Nat.lt_trans hgt (hx c hc)
          have : x ≠ y := by omega
          simp [Memory.read, this, hn] at h1
      subst hxy
      have hv : v = w := by simpa [Memory.read] using h x
      subst hv
      have htail : m = m' := ih hmt hmt' fun a => by
        by_cases ha : x = a
        · subst ha
          have e1 : Memory.read m x = none := lo hx
          have e2 : Memory.read m' x = none := lo hy
          rw [e1, e2]
        · simpa [Memory.read, ha] using h a
      rw [htail]

end Sys2Proof.Machine
end

