-- ==== Sys2Proof/Laws/State.lean ====
section
/-! SUPPORT. One lemma per field per update of State, and the fields of the shared operations that choose by a condition. -/

namespace Sys2Proof.Machine

variable (s : State)

@[simp] theorem State.setSeq_cfg (q : BitVec 3) : (s.setSeq q).cfg = s.cfg := rfl
@[simp] theorem State.setSeq_rstart (q : BitVec 3) : (s.setSeq q).rstart = s.rstart := rfl
@[simp] theorem State.setSeq_gstart (q : BitVec 3) : (s.setSeq q).gstart = s.gstart := rfl
@[simp] theorem State.setSeq_bstart (q : BitVec 3) : (s.setSeq q).bstart = s.bstart := rfl
@[simp] theorem State.setSeq_counter (q : BitVec 3) : (s.setSeq q).counter = s.counter := rfl
@[simp] theorem State.setSeq_seq (q : BitVec 3) : (s.setSeq q).seq = q := rfl
@[simp] theorem State.setSeq_cx (q : BitVec 3) : (s.setSeq q).cx = s.cx := rfl
@[simp] theorem State.setSeq_cy (q : BitVec 3) : (s.setSeq q).cy = s.cy := rfl
@[simp] theorem State.setSeq_buf (q : BitVec 3) : (s.setSeq q).buf = s.buf := rfl
@[simp] theorem State.setSeq_bufv (q : BitVec 3) : (s.setSeq q).bufv = s.bufv := rfl
@[simp] theorem State.setSeq_fb (q : BitVec 3) : (s.setSeq q).fb = s.fb := rfl
@[simp] theorem State.setSeq_env (q : BitVec 3) : (s.setSeq q).env = s.env := rfl
@[simp] theorem State.setSeq_trace (q : BitVec 3) : (s.setSeq q).trace = s.trace := rfl
@[simp] theorem State.setSeq_bench (q : BitVec 3) : (s.setSeq q).bench = s.bench := rfl
@[simp] theorem State.setSeq_terminated (q : BitVec 3) : (s.setSeq q).terminated = s.terminated := rfl

@[simp] theorem State.setCursor_cfg (x y : Coord) : (s.setCursor x y).cfg = s.cfg := rfl
@[simp] theorem State.setCursor_rstart (x y : Coord) : (s.setCursor x y).rstart = s.rstart := rfl
@[simp] theorem State.setCursor_gstart (x y : Coord) : (s.setCursor x y).gstart = s.gstart := rfl
@[simp] theorem State.setCursor_bstart (x y : Coord) : (s.setCursor x y).bstart = s.bstart := rfl
@[simp] theorem State.setCursor_counter (x y : Coord) : (s.setCursor x y).counter = s.counter := rfl
@[simp] theorem State.setCursor_seq (x y : Coord) : (s.setCursor x y).seq = s.seq := rfl
@[simp] theorem State.setCursor_cx (x y : Coord) : (s.setCursor x y).cx = x := rfl
@[simp] theorem State.setCursor_cy (x y : Coord) : (s.setCursor x y).cy = y := rfl
@[simp] theorem State.setCursor_buf (x y : Coord) : (s.setCursor x y).buf = s.buf := rfl
@[simp] theorem State.setCursor_bufv (x y : Coord) : (s.setCursor x y).bufv = s.bufv := rfl
@[simp] theorem State.setCursor_fb (x y : Coord) : (s.setCursor x y).fb = s.fb := rfl
@[simp] theorem State.setCursor_env (x y : Coord) : (s.setCursor x y).env = s.env := rfl
@[simp] theorem State.setCursor_trace (x y : Coord) : (s.setCursor x y).trace = s.trace := rfl
@[simp] theorem State.setCursor_bench (x y : Coord) : (s.setCursor x y).bench = s.bench := rfl
@[simp] theorem State.setCursor_terminated (x y : Coord) : (s.setCursor x y).terminated = s.terminated := rfl

@[simp] theorem State.holdBuffer_cfg (h : Handle) : (s.holdBuffer h).cfg = s.cfg := rfl
@[simp] theorem State.holdBuffer_rstart (h : Handle) : (s.holdBuffer h).rstart = s.rstart := rfl
@[simp] theorem State.holdBuffer_gstart (h : Handle) : (s.holdBuffer h).gstart = s.gstart := rfl
@[simp] theorem State.holdBuffer_bstart (h : Handle) : (s.holdBuffer h).bstart = s.bstart := rfl
@[simp] theorem State.holdBuffer_counter (h : Handle) : (s.holdBuffer h).counter = s.counter := rfl
@[simp] theorem State.holdBuffer_seq (h : Handle) : (s.holdBuffer h).seq = s.seq := rfl
@[simp] theorem State.holdBuffer_cx (h : Handle) : (s.holdBuffer h).cx = s.cx := rfl
@[simp] theorem State.holdBuffer_cy (h : Handle) : (s.holdBuffer h).cy = s.cy := rfl
@[simp] theorem State.holdBuffer_buf (h : Handle) : (s.holdBuffer h).buf = some h := rfl
@[simp] theorem State.holdBuffer_bufv (h : Handle) : (s.holdBuffer h).bufv = true := rfl
@[simp] theorem State.holdBuffer_fb (h : Handle) : (s.holdBuffer h).fb = s.fb := rfl
@[simp] theorem State.holdBuffer_env (h : Handle) : (s.holdBuffer h).env = s.env := rfl
@[simp] theorem State.holdBuffer_trace (h : Handle) : (s.holdBuffer h).trace = s.trace := rfl
@[simp] theorem State.holdBuffer_bench (h : Handle) : (s.holdBuffer h).bench = s.bench := rfl
@[simp] theorem State.holdBuffer_terminated (h : Handle) : (s.holdBuffer h).terminated = s.terminated := rfl

@[simp] theorem State.releaseBuffer_cfg : s.releaseBuffer.cfg = s.cfg := rfl
@[simp] theorem State.releaseBuffer_rstart : s.releaseBuffer.rstart = s.rstart := rfl
@[simp] theorem State.releaseBuffer_gstart : s.releaseBuffer.gstart = s.gstart := rfl
@[simp] theorem State.releaseBuffer_bstart : s.releaseBuffer.bstart = s.bstart := rfl
@[simp] theorem State.releaseBuffer_counter : s.releaseBuffer.counter = s.counter := rfl
@[simp] theorem State.releaseBuffer_seq : s.releaseBuffer.seq = s.seq := rfl
@[simp] theorem State.releaseBuffer_cx : s.releaseBuffer.cx = s.cx := rfl
@[simp] theorem State.releaseBuffer_cy : s.releaseBuffer.cy = s.cy := rfl
@[simp] theorem State.releaseBuffer_buf : s.releaseBuffer.buf = none := rfl
@[simp] theorem State.releaseBuffer_bufv : s.releaseBuffer.bufv = false := rfl
@[simp] theorem State.releaseBuffer_fb : s.releaseBuffer.fb = s.fb := rfl
@[simp] theorem State.releaseBuffer_env : s.releaseBuffer.env = s.env := rfl
@[simp] theorem State.releaseBuffer_trace : s.releaseBuffer.trace = s.trace := rfl
@[simp] theorem State.releaseBuffer_bench : s.releaseBuffer.bench = s.bench := rfl
@[simp] theorem State.releaseBuffer_terminated : s.releaseBuffer.terminated = s.terminated := rfl

@[simp] theorem State.setFb_cfg (m : Memory) : (s.setFb m).cfg = s.cfg := rfl
@[simp] theorem State.setFb_rstart (m : Memory) : (s.setFb m).rstart = s.rstart := rfl
@[simp] theorem State.setFb_gstart (m : Memory) : (s.setFb m).gstart = s.gstart := rfl
@[simp] theorem State.setFb_bstart (m : Memory) : (s.setFb m).bstart = s.bstart := rfl
@[simp] theorem State.setFb_counter (m : Memory) : (s.setFb m).counter = s.counter := rfl
@[simp] theorem State.setFb_seq (m : Memory) : (s.setFb m).seq = s.seq := rfl
@[simp] theorem State.setFb_cx (m : Memory) : (s.setFb m).cx = s.cx := rfl
@[simp] theorem State.setFb_cy (m : Memory) : (s.setFb m).cy = s.cy := rfl
@[simp] theorem State.setFb_buf (m : Memory) : (s.setFb m).buf = s.buf := rfl
@[simp] theorem State.setFb_bufv (m : Memory) : (s.setFb m).bufv = s.bufv := rfl
@[simp] theorem State.setFb_fb (m : Memory) : (s.setFb m).fb = m := rfl
@[simp] theorem State.setFb_env (m : Memory) : (s.setFb m).env = s.env := rfl
@[simp] theorem State.setFb_trace (m : Memory) : (s.setFb m).trace = s.trace := rfl
@[simp] theorem State.setFb_bench (m : Memory) : (s.setFb m).bench = s.bench := rfl
@[simp] theorem State.setFb_terminated (m : Memory) : (s.setFb m).terminated = s.terminated := rfl

@[simp] theorem State.issue_cfg (t : Transaction) : (s.issue t).cfg = s.cfg := rfl
@[simp] theorem State.issue_rstart (t : Transaction) : (s.issue t).rstart = s.rstart := rfl
@[simp] theorem State.issue_gstart (t : Transaction) : (s.issue t).gstart = s.gstart := rfl
@[simp] theorem State.issue_bstart (t : Transaction) : (s.issue t).bstart = s.bstart := rfl
@[simp] theorem State.issue_counter (t : Transaction) : (s.issue t).counter = s.counter := rfl
@[simp] theorem State.issue_seq (t : Transaction) : (s.issue t).seq = s.seq := rfl
@[simp] theorem State.issue_cx (t : Transaction) : (s.issue t).cx = s.cx := rfl
@[simp] theorem State.issue_cy (t : Transaction) : (s.issue t).cy = s.cy := rfl
@[simp] theorem State.issue_buf (t : Transaction) : (s.issue t).buf = s.buf := rfl
@[simp] theorem State.issue_bufv (t : Transaction) : (s.issue t).bufv = s.bufv := rfl
@[simp] theorem State.issue_fb (t : Transaction) : (s.issue t).fb = s.fb := rfl
@[simp] theorem State.issue_env (t : Transaction) : (s.issue t).env = s.env := rfl
@[simp] theorem State.issue_trace (t : Transaction) : (s.issue t).trace = t :: s.trace := rfl
@[simp] theorem State.issue_bench (t : Transaction) : (s.issue t).bench = s.bench := rfl
@[simp] theorem State.issue_terminated (t : Transaction) : (s.issue t).terminated = s.terminated := rfl

@[simp] theorem State.answerCall_cfg (v : Int) : (s.answerCall v).cfg = s.cfg := rfl
@[simp] theorem State.answerCall_rstart (v : Int) : (s.answerCall v).rstart = s.rstart := rfl
@[simp] theorem State.answerCall_gstart (v : Int) : (s.answerCall v).gstart = s.gstart := rfl
@[simp] theorem State.answerCall_bstart (v : Int) : (s.answerCall v).bstart = s.bstart := rfl
@[simp] theorem State.answerCall_counter (v : Int) : (s.answerCall v).counter = s.counter := rfl
@[simp] theorem State.answerCall_seq (v : Int) : (s.answerCall v).seq = s.seq := rfl
@[simp] theorem State.answerCall_cx (v : Int) : (s.answerCall v).cx = s.cx := rfl
@[simp] theorem State.answerCall_cy (v : Int) : (s.answerCall v).cy = s.cy := rfl
@[simp] theorem State.answerCall_buf (v : Int) : (s.answerCall v).buf = s.buf := rfl
@[simp] theorem State.answerCall_bufv (v : Int) : (s.answerCall v).bufv = s.bufv := rfl
@[simp] theorem State.answerCall_fb (v : Int) : (s.answerCall v).fb = s.fb := rfl
@[simp] theorem State.answerCall_env (v : Int) : (s.answerCall v).env = s.env := rfl
@[simp] theorem State.answerCall_trace (v : Int) : (s.answerCall v).trace = s.trace := rfl
@[simp] theorem State.answerCall_bench (v : Int) : (s.answerCall v).bench = ⟨none, s.bench.args, some v⟩ := rfl
@[simp] theorem State.answerCall_terminated (v : Int) : (s.answerCall v).terminated = s.terminated := rfl

@[simp] theorem State.advanceEnv_cfg : s.advanceEnv.cfg = s.cfg := rfl
@[simp] theorem State.advanceEnv_rstart : s.advanceEnv.rstart = s.rstart := rfl
@[simp] theorem State.advanceEnv_gstart : s.advanceEnv.gstart = s.gstart := rfl
@[simp] theorem State.advanceEnv_bstart : s.advanceEnv.bstart = s.bstart := rfl
@[simp] theorem State.advanceEnv_counter : s.advanceEnv.counter = s.counter := rfl
@[simp] theorem State.advanceEnv_seq : s.advanceEnv.seq = s.seq := rfl
@[simp] theorem State.advanceEnv_cx : s.advanceEnv.cx = s.cx := rfl
@[simp] theorem State.advanceEnv_cy : s.advanceEnv.cy = s.cy := rfl
@[simp] theorem State.advanceEnv_buf : s.advanceEnv.buf = s.buf := rfl
@[simp] theorem State.advanceEnv_bufv : s.advanceEnv.bufv = s.bufv := rfl
@[simp] theorem State.advanceEnv_fb : s.advanceEnv.fb = s.fb := rfl
@[simp] theorem State.advanceEnv_env : s.advanceEnv.env = (match s.env.script with
      | [] => ⟨[], s.env.draws + 1⟩
      | _ :: rest => ⟨rest, s.env.draws⟩) := rfl
@[simp] theorem State.advanceEnv_trace : s.advanceEnv.trace = s.trace := rfl
@[simp] theorem State.advanceEnv_bench : s.advanceEnv.bench = s.bench := rfl
@[simp] theorem State.advanceEnv_terminated : s.advanceEnv.terminated = s.terminated := rfl

@[simp] theorem State.abandonBuffer_cfg : s.abandonBuffer.cfg = s.cfg := rfl
@[simp] theorem State.abandonBuffer_rstart : s.abandonBuffer.rstart = s.rstart := rfl
@[simp] theorem State.abandonBuffer_gstart : s.abandonBuffer.gstart = s.gstart := rfl
@[simp] theorem State.abandonBuffer_bstart : s.abandonBuffer.bstart = s.bstart := rfl
@[simp] theorem State.abandonBuffer_counter : s.abandonBuffer.counter = s.counter := rfl
@[simp] theorem State.abandonBuffer_seq : s.abandonBuffer.seq = s.seq := rfl
@[simp] theorem State.abandonBuffer_cx : s.abandonBuffer.cx = s.cx := rfl
@[simp] theorem State.abandonBuffer_cy : s.abandonBuffer.cy = s.cy := rfl
@[simp] theorem State.abandonBuffer_buf : s.abandonBuffer.buf = s.buf := rfl
@[simp] theorem State.abandonBuffer_bufv : s.abandonBuffer.bufv = s.bufv := rfl
@[simp] theorem State.abandonBuffer_fb : s.abandonBuffer.fb = (match s.heldBuffer with
      | some h => s.fb.forget h
      | none => s.fb) := rfl
@[simp] theorem State.abandonBuffer_env : s.abandonBuffer.env = s.env := rfl
@[simp] theorem State.abandonBuffer_trace : s.abandonBuffer.trace = s.trace := rfl
@[simp] theorem State.abandonBuffer_bench : s.abandonBuffer.bench = s.bench := rfl
@[simp] theorem State.abandonBuffer_terminated : s.abandonBuffer.terminated = s.terminated := rfl

@[simp] theorem State.freeze_cfg : s.freeze.cfg = s.cfg := rfl
@[simp] theorem State.freeze_rstart : s.freeze.rstart = s.rstart := rfl
@[simp] theorem State.freeze_gstart : s.freeze.gstart = s.gstart := rfl
@[simp] theorem State.freeze_bstart : s.freeze.bstart = s.bstart := rfl
@[simp] theorem State.freeze_counter : s.freeze.counter = s.counter := rfl
@[simp] theorem State.freeze_seq : s.freeze.seq = s.seq := rfl
@[simp] theorem State.freeze_cx : s.freeze.cx = s.cx := rfl
@[simp] theorem State.freeze_cy : s.freeze.cy = s.cy := rfl
@[simp] theorem State.freeze_buf : s.freeze.buf = s.buf := rfl
@[simp] theorem State.freeze_bufv : s.freeze.bufv = s.bufv := rfl
@[simp] theorem State.freeze_fb : s.freeze.fb = s.fb := rfl
@[simp] theorem State.freeze_env : s.freeze.env = s.env := rfl
@[simp] theorem State.freeze_trace : s.freeze.trace = s.trace := rfl
@[simp] theorem State.freeze_bench : s.freeze.bench = s.bench := rfl
@[simp] theorem State.freeze_terminated : s.freeze.terminated = true := rfl

@[simp] theorem State.resetRegs_cfg : s.resetRegs.cfg = s.cfg := rfl
@[simp] theorem State.resetRegs_rstart : s.resetRegs.rstart = s.cfg.straps.phaseInitR := rfl
@[simp] theorem State.resetRegs_gstart : s.resetRegs.gstart = s.cfg.straps.phaseInitG := rfl
@[simp] theorem State.resetRegs_bstart : s.resetRegs.bstart = s.cfg.straps.phaseInitB := rfl
@[simp] theorem State.resetRegs_counter : s.resetRegs.counter = 0 := rfl
@[simp] theorem State.resetRegs_seq : s.resetRegs.seq = 0 := rfl
@[simp] theorem State.resetRegs_cx : s.resetRegs.cx = 0 := rfl
@[simp] theorem State.resetRegs_cy : s.resetRegs.cy = 0 := rfl
@[simp] theorem State.resetRegs_buf : s.resetRegs.buf = none := rfl
@[simp] theorem State.resetRegs_bufv : s.resetRegs.bufv = false := rfl
@[simp] theorem State.resetRegs_fb : s.resetRegs.fb = s.fb := rfl
@[simp] theorem State.resetRegs_env : s.resetRegs.env = s.env := rfl
@[simp] theorem State.resetRegs_trace : s.resetRegs.trace = s.trace := rfl
@[simp] theorem State.resetRegs_bench : s.resetRegs.bench = s.bench := rfl
@[simp] theorem State.resetRegs_terminated : s.resetRegs.terminated = s.terminated := rfl

@[simp] theorem State.fbWrite_cfg (h : Handle) (idx : ElemIdx) (v : Pixel) : (s.fbWrite h idx v).cfg = s.cfg := rfl
@[simp] theorem State.fbWrite_rstart (h : Handle) (idx : ElemIdx) (v : Pixel) : (s.fbWrite h idx v).rstart = s.rstart := rfl
@[simp] theorem State.fbWrite_gstart (h : Handle) (idx : ElemIdx) (v : Pixel) : (s.fbWrite h idx v).gstart = s.gstart := rfl
@[simp] theorem State.fbWrite_bstart (h : Handle) (idx : ElemIdx) (v : Pixel) : (s.fbWrite h idx v).bstart = s.bstart := rfl
@[simp] theorem State.fbWrite_counter (h : Handle) (idx : ElemIdx) (v : Pixel) : (s.fbWrite h idx v).counter = s.counter := rfl
@[simp] theorem State.fbWrite_seq (h : Handle) (idx : ElemIdx) (v : Pixel) : (s.fbWrite h idx v).seq = s.seq := rfl
@[simp] theorem State.fbWrite_cx (h : Handle) (idx : ElemIdx) (v : Pixel) : (s.fbWrite h idx v).cx = s.cx := rfl
@[simp] theorem State.fbWrite_cy (h : Handle) (idx : ElemIdx) (v : Pixel) : (s.fbWrite h idx v).cy = s.cy := rfl
@[simp] theorem State.fbWrite_buf (h : Handle) (idx : ElemIdx) (v : Pixel) : (s.fbWrite h idx v).buf = s.buf := rfl
@[simp] theorem State.fbWrite_bufv (h : Handle) (idx : ElemIdx) (v : Pixel) : (s.fbWrite h idx v).bufv = s.bufv := rfl
@[simp] theorem State.fbWrite_fb (h : Handle) (idx : ElemIdx) (v : Pixel) : (s.fbWrite h idx v).fb = s.fb.writeElem s.cfg.straps.byteOrder h idx v := rfl
@[simp] theorem State.fbWrite_env (h : Handle) (idx : ElemIdx) (v : Pixel) : (s.fbWrite h idx v).env = s.env := rfl
@[simp] theorem State.fbWrite_trace (h : Handle) (idx : ElemIdx) (v : Pixel) : (s.fbWrite h idx v).trace = .fbWrite h idx v :: s.trace := rfl
@[simp] theorem State.fbWrite_bench (h : Handle) (idx : ElemIdx) (v : Pixel) : (s.fbWrite h idx v).bench = s.bench := rfl
@[simp] theorem State.fbWrite_terminated (h : Handle) (idx : ElemIdx) (v : Pixel) : (s.fbWrite h idx v).terminated = s.terminated := rfl

@[simp] theorem State.freshBuffer_cfg (h : Handle) (c : List (ElemIdx × Pixel)) : (s.freshBuffer h c).cfg = s.cfg := rfl
@[simp] theorem State.freshBuffer_rstart (h : Handle) (c : List (ElemIdx × Pixel)) : (s.freshBuffer h c).rstart = s.rstart := rfl
@[simp] theorem State.freshBuffer_gstart (h : Handle) (c : List (ElemIdx × Pixel)) : (s.freshBuffer h c).gstart = s.gstart := rfl
@[simp] theorem State.freshBuffer_bstart (h : Handle) (c : List (ElemIdx × Pixel)) : (s.freshBuffer h c).bstart = s.bstart := rfl
@[simp] theorem State.freshBuffer_counter (h : Handle) (c : List (ElemIdx × Pixel)) : (s.freshBuffer h c).counter = s.counter := rfl
@[simp] theorem State.freshBuffer_seq (h : Handle) (c : List (ElemIdx × Pixel)) : (s.freshBuffer h c).seq = s.seq := rfl
@[simp] theorem State.freshBuffer_cx (h : Handle) (c : List (ElemIdx × Pixel)) : (s.freshBuffer h c).cx = s.cx := rfl
@[simp] theorem State.freshBuffer_cy (h : Handle) (c : List (ElemIdx × Pixel)) : (s.freshBuffer h c).cy = s.cy := rfl
@[simp] theorem State.freshBuffer_buf (h : Handle) (c : List (ElemIdx × Pixel)) : (s.freshBuffer h c).buf = s.buf := rfl
@[simp] theorem State.freshBuffer_bufv (h : Handle) (c : List (ElemIdx × Pixel)) : (s.freshBuffer h c).bufv = s.bufv := rfl
@[simp] theorem State.freshBuffer_fb (h : Handle) (c : List (ElemIdx × Pixel)) : (s.freshBuffer h c).fb = (s.fb.forget h).fill s.cfg.straps.byteOrder h s.bufferSize c := rfl
@[simp] theorem State.freshBuffer_env (h : Handle) (c : List (ElemIdx × Pixel)) : (s.freshBuffer h c).env = s.env := rfl
@[simp] theorem State.freshBuffer_trace (h : Handle) (c : List (ElemIdx × Pixel)) : (s.freshBuffer h c).trace = s.trace := rfl
@[simp] theorem State.freshBuffer_bench (h : Handle) (c : List (ElemIdx × Pixel)) : (s.freshBuffer h c).bench = s.bench := rfl
@[simp] theorem State.freshBuffer_terminated (h : Handle) (c : List (ElemIdx × Pixel)) : (s.freshBuffer h c).terminated = s.terminated := rfl

@[simp] theorem State.applyEnvStores_cfg : s.applyEnvStores.cfg = s.cfg := rfl
@[simp] theorem State.applyEnvStores_rstart : s.applyEnvStores.rstart = s.rstart := rfl
@[simp] theorem State.applyEnvStores_gstart : s.applyEnvStores.gstart = s.gstart := rfl
@[simp] theorem State.applyEnvStores_bstart : s.applyEnvStores.bstart = s.bstart := rfl
@[simp] theorem State.applyEnvStores_counter : s.applyEnvStores.counter = s.counter := rfl
@[simp] theorem State.applyEnvStores_seq : s.applyEnvStores.seq = s.seq := rfl
@[simp] theorem State.applyEnvStores_cx : s.applyEnvStores.cx = s.cx := rfl
@[simp] theorem State.applyEnvStores_cy : s.applyEnvStores.cy = s.cy := rfl
@[simp] theorem State.applyEnvStores_buf : s.applyEnvStores.buf = s.buf := rfl
@[simp] theorem State.applyEnvStores_bufv : s.applyEnvStores.bufv = s.bufv := rfl
@[simp] theorem State.applyEnvStores_fb : s.applyEnvStores.fb = s.fb.applyStores s.cfg.straps.byteOrder s.input.stores := rfl
@[simp] theorem State.applyEnvStores_env : s.applyEnvStores.env = s.env := rfl
@[simp] theorem State.applyEnvStores_trace : s.applyEnvStores.trace = s.trace := rfl
@[simp] theorem State.applyEnvStores_bench : s.applyEnvStores.bench = s.bench := rfl
@[simp] theorem State.applyEnvStores_terminated : s.applyEnvStores.terminated = s.terminated := rfl

@[simp] theorem State.advancePhases_cfg (m : Mode) : (s.advancePhases m).cfg = s.cfg := by
  cases m <;> rfl
@[simp] theorem State.advancePhases_seq (m : Mode) : (s.advancePhases m).seq = s.seq := by
  cases m <;> rfl
@[simp] theorem State.advancePhases_cx (m : Mode) : (s.advancePhases m).cx = s.cx := by
  cases m <;> rfl
@[simp] theorem State.advancePhases_cy (m : Mode) : (s.advancePhases m).cy = s.cy := by
  cases m <;> rfl
@[simp] theorem State.advancePhases_buf (m : Mode) : (s.advancePhases m).buf = s.buf := by
  cases m <;> rfl
@[simp] theorem State.advancePhases_bufv (m : Mode) : (s.advancePhases m).bufv = s.bufv := by
  cases m <;> rfl
@[simp] theorem State.advancePhases_fb (m : Mode) : (s.advancePhases m).fb = s.fb := by
  cases m <;> rfl
@[simp] theorem State.advancePhases_env (m : Mode) : (s.advancePhases m).env = s.env := by
  cases m <;> rfl
@[simp] theorem State.advancePhases_trace (m : Mode) : (s.advancePhases m).trace = s.trace := by
  cases m <;> rfl
@[simp] theorem State.advancePhases_bench (m : Mode) : (s.advancePhases m).bench = s.bench := by
  cases m <;> rfl
@[simp] theorem State.advancePhases_terminated (m : Mode) : (s.advancePhases m).terminated = s.terminated := by
  cases m <;> rfl
@[simp] theorem State.advanceCursor_cfg : s.advanceCursor.cfg = s.cfg := by
  unfold State.advanceCursor; split <;> [split; skip] <;> rfl
@[simp] theorem State.advanceCursor_rstart : s.advanceCursor.rstart = s.rstart := by
  unfold State.advanceCursor; split <;> [split; skip] <;> rfl
@[simp] theorem State.advanceCursor_gstart : s.advanceCursor.gstart = s.gstart := by
  unfold State.advanceCursor; split <;> [split; skip] <;> rfl
@[simp] theorem State.advanceCursor_bstart : s.advanceCursor.bstart = s.bstart := by
  unfold State.advanceCursor; split <;> [split; skip] <;> rfl
@[simp] theorem State.advanceCursor_counter : s.advanceCursor.counter = s.counter := by
  unfold State.advanceCursor; split <;> [split; skip] <;> rfl
@[simp] theorem State.advanceCursor_buf : s.advanceCursor.buf = s.buf := by
  unfold State.advanceCursor; split <;> [split; skip] <;> rfl
@[simp] theorem State.advanceCursor_bufv : s.advanceCursor.bufv = s.bufv := by
  unfold State.advanceCursor; split <;> [split; skip] <;> rfl
@[simp] theorem State.advanceCursor_fb : s.advanceCursor.fb = s.fb := by
  unfold State.advanceCursor; split <;> [split; skip] <;> rfl
@[simp] theorem State.advanceCursor_env : s.advanceCursor.env = s.env := by
  unfold State.advanceCursor; split <;> [split; skip] <;> rfl
@[simp] theorem State.advanceCursor_trace : s.advanceCursor.trace = s.trace := by
  unfold State.advanceCursor; split <;> [split; skip] <;> rfl
@[simp] theorem State.advanceCursor_bench : s.advanceCursor.bench = s.bench := by
  unfold State.advanceCursor; split <;> [split; skip] <;> rfl
@[simp] theorem State.advanceCursor_terminated : s.advanceCursor.terminated = s.terminated := by
  unfold State.advanceCursor; split <;> [split; skip] <;> rfl
@[simp] theorem State.raise_cfg (c : Cause) : (s.raise c).cfg = s.cfg := by
  cases c; rfl
@[simp] theorem State.raise_rstart (c : Cause) : (s.raise c).rstart = s.rstart := by
  cases c; rfl
@[simp] theorem State.raise_gstart (c : Cause) : (s.raise c).gstart = s.gstart := by
  cases c; rfl
@[simp] theorem State.raise_bstart (c : Cause) : (s.raise c).bstart = s.bstart := by
  cases c; rfl
@[simp] theorem State.raise_counter (c : Cause) : (s.raise c).counter = s.counter := by
  cases c; rfl
@[simp] theorem State.raise_cx (c : Cause) : (s.raise c).cx = s.cx := by
  cases c; rfl
@[simp] theorem State.raise_cy (c : Cause) : (s.raise c).cy = s.cy := by
  cases c; rfl
@[simp] theorem State.raise_buf (c : Cause) : (s.raise c).buf = s.buf := by
  cases c; rfl
@[simp] theorem State.raise_bufv (c : Cause) : (s.raise c).bufv = s.bufv := by
  cases c; rfl
@[simp] theorem State.raise_fb (c : Cause) : (s.raise c).fb = s.fb := by
  cases c; rfl
@[simp] theorem State.raise_env (c : Cause) : (s.raise c).env = s.env := by
  cases c; rfl
@[simp] theorem State.raise_trace (c : Cause) : (s.raise c).trace = s.trace := by
  cases c; rfl
@[simp] theorem State.raise_bench (c : Cause) : (s.raise c).bench = s.bench := by
  cases c; rfl
@[simp] theorem State.raise_terminated (c : Cause) : (s.raise c).terminated = s.terminated := by
  cases c; rfl
@[simp] theorem State.raise_seq (c : Cause) : (s.raise c).seq = seqHalt := by
  cases c; rfl

end Sys2Proof.Machine
end

