-- ==== Sys2Proof/Laws/Ops.lean ====
section
/-! SUPPORT. One lemma per shared operation that says what it does: addresses, the named reads, the buffer operations on the storage. -/

namespace Sys2Proof.Machine

/-- ADDR never overflows its 32 bits (R142, R7). -/
theorem addr_toNat (c : Config) (x y : Coord) :
    (addr c x y).toNat = y.toNat * c.straps.stride + x.toNat := by
  have hs : c.straps.stride ≤ 65535 := c.legal.stride.2
  have hx := x.isLt
  have hy := y.isLt
  have hm : y.toNat * c.straps.stride ≤ 65535 * 65535 := Nat.mul_le_mul (by omega) hs
  simp only [addr, widenIndex, BitVec.toNat_add, BitVec.toNat_mul, BitVec.toNat_setWidth,
    BitVec.toNat_ofNat]
  rw [Nat.mod_eq_of_lt (a := y.toNat) (by omega), Nat.mod_eq_of_lt (a := x.toNat) (by omega),
    Nat.mod_eq_of_lt (a := c.straps.stride) (by omega), Nat.mod_eq_of_lt (a := _ * _) (by omega),
    Nat.mod_eq_of_lt (by omega)]

theorem State.heldBuffer_eq_some {s : State} {h : Handle} :
    s.heldBuffer = some h ↔ s.bufv = true ∧ s.buf = some h := by
  simp [State.heldBuffer]

theorem State.heldBuffer_eq_none {s : State} :
    s.heldBuffer = none ↔ s.bufv = false ∨ s.buf = none := by
  cases hb : s.bufv <;> simp [State.heldBuffer, hb]

theorem State.cursorInFrame_iff {s : State} :
    s.cursorInFrame = true ↔ s.cx.toNat < s.cfg.straps.hres ∧ s.cy.toNat < s.cfg.straps.vres := by
  simp [State.cursorInFrame]

/-- A boundary without breach leaves an owned buffer's elements alone (R59). -/
theorem State.applyEnvStores_fbRead {s : State} {h : Handle} (hb : s.envBreach = none)
    (hh : s.heldBuffer = some h) (idx : ElemIdx) : s.applyEnvStores.fbRead h idx = s.fbRead h idx := by
  refine Memory.readElem_applyStores_other _ _ idx fun e he heq => ?_
  have : (s.input.stores.any fun st => st.handle == h) = true :=
    List.any_eq_true.2 ⟨e, he, by simp [heq]⟩
  simp [State.envBreach, hh, this] at hb

/-- An abandoned buffer has no known byte; every other buffer keeps its bytes (M6). -/
theorem State.read_abandonBuffer (s : State) (a : Nat) :
    s.abandonBuffer.fb.read a = if s.heldBuffer = some (bufferOf a) then none else s.fb.read a := by
  cases hh : s.heldBuffer with
  | none => simp [hh]
  | some h => simp [hh, Memory.read_forget, eq_comm]

/-- Abandoning a buffer keeps the canonical form. -/
theorem State.wf_abandonBuffer {s : State} (hs : Memory.wf s.fb) : Memory.wf s.abandonBuffer.fb := by
  rw [State.abandonBuffer_fb]
  split
  · exact Memory.wf_forget hs _
  · exact hs

theorem State.fbRead_fbWrite_self (s : State) (h : Handle) (idx : ElemIdx) (v : Pixel) :
    (s.fbWrite h idx v).fbRead h idx = some v :=
  Memory.readElem_writeElem_self _ _ _ _ _

theorem State.fbRead_fbWrite_other (s : State) {h h' : Handle} {idx idx' : ElemIdx} (v : Pixel)
    (hne : h' ≠ h ∨ idx' ≠ idx) : (s.fbWrite h idx v).fbRead h' idx' = s.fbRead h' idx' :=
  Memory.readElem_writeElem_other _ _ v hne

/-- Everything the cursor's advance can do (R144, R149). -/
theorem State.advanceCursor_cases (s : State) :
    (s.cx.toNat + 1 < s.cfg.straps.hres ∧ s.advanceCursor = s.setCursor (s.cx + 1) s.cy) ∨
    (s.cfg.straps.hres ≤ s.cx.toNat + 1 ∧ s.cy.toNat + 1 < s.cfg.straps.vres ∧
      s.advanceCursor = s.setCursor 0 (s.cy + 1)) ∨
    (s.cfg.straps.hres ≤ s.cx.toNat + 1 ∧ s.cfg.straps.vres ≤ s.cy.toNat + 1 ∧
      s.advanceCursor = (s.setCursor 0 0).setSeq seqSub) := by
  by_cases hx : s.cx.toNat + 1 < s.cfg.straps.hres <;>
    by_cases hy : s.cy.toNat + 1 < s.cfg.straps.vres <;>
    simp [State.advanceCursor, State.endOfRow, State.lastRow, hx, hy] <;> omega

/-- GEN reads the configuration and the phase registers only (R141). -/
theorem gen_congr {s t : State} (hc : t.cfg = s.cfg) (hr : t.rstart = s.rstart)
    (hg : t.gstart = s.gstart) (hb : t.bstart = s.bstart) (hn : t.counter = s.counter)
    (x y : Coord) : gen t x y = gen s x y := by
  simp [gen, hc, hr, hg, hb, hn]

end Sys2Proof.Machine
end

