-- ==== Sys2Proof/Laws/PerInstr.lean ====
section
/-! SUPPORT. A statement about every operation as syntax: its identifier decodes to it, and the class bit says what it is (30_encoding.md R81). -/

namespace Sys2Proof.Laws.Identifier

/-- The identifier of `i` decodes to `i`; `OP[3]` is 0 exactly for the rows whose `OP[2:0]` is a value of
SEQ; and an identifier is assigned unless it is 6 or 7 (R81, R84). -/
def Statement (i : Instr) : Prop :=
  decodeOp (encodeOp i) = i ∧
    ((encodeOp i).getLsbD 3 = false ↔ decodeSeq ((encodeOp i).extractLsb' 0 3) = i) ∧
    (i.WellFormed = true ↔ encodeOp i ≠ 6 ∧ encodeOp i ≠ 7)

theorem acq : Statement .acq := by unfold Statement; decide
theorem pix : Statement .pix := by unfold Statement; decide
theorem sub : Statement .sub := by unfold Statement; decide
theorem adv : Statement .adv := by unfold Statement; decide
theorem wait : Statement .wait := by unfold Statement; decide
theorem halt : Statement .halt := by unfold Statement; decide
theorem reserved6 : Statement .reserved6 := by unfold Statement; decide
theorem reserved7 : Statement .reserved7 := by unfold Statement; decide
theorem sine : Statement .sine := by unfold Statement; decide
theorem arg : Statement .arg := by unfold Statement; decide
theorem chan : Statement .chan := by unfold Statement; decide
theorem pack565 : Statement .pack565 := by unfold Statement; decide
theorem plasma : Statement .plasma := by unfold Statement; decide
theorem solid : Statement .solid := by unfold Statement; decide
theorem addr : Statement .addr := by unfold Statement; decide
theorem gen : Statement .gen := by unfold Statement; decide

end Sys2Proof.Laws.Identifier
end

