-- ==== Sys2Proof/Laws/Step.lean ====
section
/-! SUPPORT. Everything a step, and an operation, can answer a next state with: one inversion lemma for each, which later proofs cite instead of unfolding step or exec. -/

namespace Sys2Proof.Machine

/-- What ends in a next state when an operation runs: one line per row of the transition table R149, the
three hangs of R176, and a direct call of a function. -/
inductive ExecNext (s : State) : Instr → State → Prop where
  /-- HALT, or a transaction the environment has not completed (R148, R176). -/
  | stays {i : Instr}
      (why : i = .halt ∨ (i = .acq ∧ s.input.alloc = none) ∨
        (i = .sub ∧ s.input.submitted = false ∧ ∃ h, s.heldBuffer = some h) ∨
        (i = .wait ∧ s.input.waited = false)) : ExecNext s i s
  /-- ACQ answered `ok(h)`. -/
  | acquired {h : Handle} {contents : List (ElemIdx × Pixel)}
      (ans : s.input.alloc = some (.ok h contents)) :
      ExecNext s .acq (((((s.freshBuffer h contents).holdBuffer h).setCursor 0 0).setSeq seqPix).issue
        (.allocOk h))
  /-- ACQ answered `fail`. -/
  | failed (ans : s.input.alloc = some .fail) :
      ExecNext s .acq ((s.raise .allocFail).issue .allocFail)
  /-- PIX. -/
  | stored {h : Handle} (held : s.heldBuffer = some h)
      (hx : s.cx.toNat < s.cfg.straps.hres) (hy : s.cy.toNat < s.cfg.straps.vres) :
      ExecNext s .pix (s.fbWrite h (addr s.cfg s.cx s.cy) (gen s s.cx s.cy)).advanceCursor
  /-- SUB completed. -/
  | submitted {h : Handle} (held : s.heldBuffer = some h) (done : s.input.submitted = true) :
      ExecNext s .sub ((s.issue (.submit h)).releaseBuffer.setSeq seqAdv)
  /-- ADV. -/
  | advanced : ExecNext s .adv ((s.advancePhases s.cfg.straps.mode).setSeq seqWait)
  /-- WAIT returned. -/
  | waited (done : s.input.waited = true) :
      ExecNext s .wait ((s.issue (.wait s.cfg.straps.framePeriod)).setSeq seqAcq)
  /-- A function applied directly. -/
  | called {i : Instr} (fn : (encodeOp i).getLsbD 3 = true) (v : Int) : ExecNext s i (s.answerCall v)

theorem exec_next {i : Instr} {s t : State} (h : exec i s = .next t) : ExecNext s i t := by
  cases i
  case acq =>
    simp only [exec, execAcq] at h
    split at h
    · next ha => cases h; exact .stays (.inr (.inl ⟨rfl, ha⟩))
    · next ha => cases h; exact .acquired ha
    · cases h
    · next ha => cases h; exact .failed ha
  case pix =>
    simp only [exec, execPix] at h
    split at h
    · cases h
    · next hb =>
      split at h
      · next hc =>
        cases h
        exact .stored hb (State.cursorInFrame_iff.1 hc).1 (State.cursorInFrame_iff.1 hc).2
      · cases h
  case sub =>
    simp only [exec, execSub] at h
    split at h
    · cases h
    · next hb =>
      split at h
      · next hd => cases h; exact .submitted hb hd
      · next hd => cases h; exact .stays (.inr (.inr (.inl ⟨rfl, by simpa using hd, _, hb⟩)))
  case adv => cases h; exact .advanced
  case wait =>
    simp only [exec, execWait] at h
    split at h
    · next hd => cases h; exact .waited hd
    · next hd => cases h; exact .stays (.inr (.inr (.inr ⟨rfl, by simpa using hd⟩)))
  case halt => cases h; exact .stays (.inl rfl)
  case reserved6 => cases h
  case reserved7 => cases h
  all_goals (cases h; exact .called rfl _)

/-- Everything one step can answer a next state with (R173, R182). -/
theorem step_next {s t : State} (h : step s = .next t) :
    (s.terminated = true ∧ t = s.applyEnvStores.advanceEnv) ∨
    (s.terminated = false ∧ s.envBreach = none ∧
      ((s.input.host = some .terminate ∧ t = s.applyEnvStores.abandonBuffer.freeze.advanceEnv) ∨
       (s.input.host = some .reset ∧ t = s.applyEnvStores.abandonBuffer.resetRegs.advanceEnv) ∨
       (s.input.host = none ∧
         ∃ u, ExecNext s.applyEnvStores s.fetched u ∧ t = u.advanceEnv))) := by
  simp only [step] at h
  split at h
  · next ht => cases h; exact .inl ⟨ht, rfl⟩
  · next ht =>
    refine .inr ⟨by simpa using ht, ?_⟩
    split at h
    · cases h
    · next hb =>
      refine ⟨hb, ?_⟩
      split at h
      · next hh => cases h; exact .inl ⟨hh, rfl⟩
      · next hh => cases h; exact .inr (.inl ⟨hh, rfl⟩)
      · next hh =>
        refine .inr (.inr ⟨hh, ?_⟩)
        cases he : exec s.fetched s.applyEnvStores with
        | next u =>
          rw [he] at h
          cases h
          exact ⟨u, exec_next he, rfl⟩
        | fault f => rw [he] at h; cases h
        | refused r => rw [he] at h; cases h

/-- With no direct call pending, the step runs the operation SEQ selects (R30). -/
theorem fetched_of_seq {s : State} (h : s.bench.request = none) : s.fetched = decodeSeq s.seq := by
  have : ∀ q : BitVec 3, decodeOp (0#1 ++ q) = decodeSeq q := by decide
  simp [State.fetched, State.fetchOp, h, this]

/-- A pending direct call is what the step runs. -/
theorem fetched_of_call {s : State} {n : BitVec 3} (h : s.bench.request = some n) :
    s.fetched = decodeFn n := by
  have : ∀ q : BitVec 3, decodeOp (1#1 ++ q) = decodeFn q := by decide
  simp [State.fetched, State.fetchOp, h, this]

/-- The operation a step runs identifies the state of the sequencer (R30, R82). -/
theorem fetched_seq {s : State} :
    (s.fetched = .acq → s.seq = seqAcq) ∧ (s.fetched = .pix → s.seq = seqPix) ∧
    (s.fetched = .sub → s.seq = seqSub) ∧ (s.fetched = .adv → s.seq = seqAdv) ∧
    (s.fetched = .wait → s.seq = seqWait) ∧ (s.fetched = .halt → s.seq = seqHalt) := by
  cases hr : s.bench.request with
  | none =>
    rw [fetched_of_seq hr]
    revert s
    intro s _
    generalize s.seq = q
    revert q
    decide
  | some n =>
    rw [fetched_of_call hr]
    have : ∀ n : BitVec 3, decodeFn n ≠ .acq ∧ decodeFn n ≠ .pix ∧ decodeFn n ≠ .sub ∧
        decodeFn n ≠ .adv ∧ decodeFn n ≠ .wait ∧ decodeFn n ≠ .halt := by decide
    obtain ⟨h1, h2, h3, h4, h5, h6⟩ := this n
    exact ⟨fun e => absurd e h1, fun e => absurd e h2, fun e => absurd e h3,
      fun e => absurd e h4, fun e => absurd e h5, fun e => absurd e h6⟩

/-- A run takes its first step first. -/
theorem run_succ {s t : State} (h : step s = .next t) (k : Nat) :
    Host.Core.run Sys2Proof.core (k + 1) s = Host.Core.run Sys2Proof.core k t := by
  have h' : Sys2Proof.core.step s = .next t := h
  simp only [Host.Core.run, h']

end Sys2Proof.Machine
end

