-- ==== Sys2Proof/Laws/Run.lean ====
section
/-! SUPPORT. Runs: the first step, one run after another, the step of SLPG's own operation, and what the environment does at a later boundary. -/

namespace Sys2Proof.Machine

theorem Reaches.cons {s t u : State} {k : Nat} (h : step s = .next t) (h' : Reaches t k u) :
    Reaches s (k + 1) u :=
  (run_succ h k).trans h'

theorem Reaches.one {s t : State} (h : step s = .next t) : Reaches s 1 t := Reaches.cons h rfl

/-- A run of at least one step has a first step. -/
theorem Reaches.uncons {s u : State} {k : Nat} (h : Reaches s (k + 1) u) :
    ∃ t, step s = .next t ∧ Reaches t k u := by
  cases hs : step s with
  | next t => exact ⟨t, rfl, (run_succ hs k).symm.trans h⟩
  | fault f =>
    have hs : Sys2Proof.core.step s = .fault f := hs
    simp [Reaches, Host.Core.run, hs] at h
  | refused r =>
    have hs : Sys2Proof.core.step s = .refused r := hs
    simp [Reaches, Host.Core.run, hs] at h

theorem Reaches.append {s t u : State} {j k : Nat} (h : Reaches s j t) (h' : Reaches t k u) :
    Reaches s (j + k) u := by
  induction j generalizing s with
  | zero => cases h; rwa [Nat.zero_add]
  | succ j ih =>
    obtain ⟨s', hs, hr⟩ := h.uncons
    rw [Nat.add_right_comm]
    exact (ih hr).cons hs

/-- Where nothing disturbs the boundary, the step runs the operation SEQ selects (R30). -/
theorem step_of_seq {s : State} (ht : s.terminated = false) (hr : s.bench.request = none)
    (hu : s.Undisturbed) : step s = closeStep (exec (decodeSeq s.seq) s.applyEnvStores) := by
  simp [step, ht, hu.1, hu.2.1, fetched_of_seq hr]

theorem input_congr {s t : State} (h : s.env = t.env) : s.input = t.input := by
  simp only [State.input, h]

/-- What the environment does later depends on its part of the state only. -/
theorem inputAfter_congr {s t : State} (h : s.env = t.env) (m : Nat) :
    s.inputAfter m = t.inputAfter m := by
  induction m generalizing s t with
  | zero => exact input_congr h
  | succ m ih =>
    exact ih (s := s.advanceEnv) (t := t.advanceEnv) (by simp only [State.advanceEnv_env, h])

theorem inputAfter_succ (s : State) (m : Nat) :
    s.inputAfter (m + 1) = s.advanceEnv.inputAfter m := rfl

end Sys2Proof.Machine
end

