-- ==== Sys2Proof/Machine/Pseudo.lean ====
section
/-! DEFINITION. The pseudo-operations of 30_encoding.md R92: fixed sequences of operations, used in traces only. -/

namespace Sys2Proof.Machine

/-- `FILL`: HRES·VRES times PIX. -/
def fillOps (c : Config) : List Instr := List.replicate (c.straps.hres * c.straps.vres) .pix

/-- `RENDER`: ACQ, FILL, SUB. -/
def renderOps (c : Config) : List Instr := .acq :: fillOps c ++ [.sub]

/-- `WAITING`: ADV, WAIT. -/
def waitingOps : List Instr := [.adv, .wait]

/-- `FRAME`: RENDER, WAITING; one iteration of the frame loop. -/
def frameOps (c : Config) : List Instr := renderOps c ++ waitingOps

end Sys2Proof.Machine
end

