-- ==== Sys2Proof/Tests/Slice0.lean ====
section
/-! SUPPORT. Tests: the checks of WellFormed.lean on ill-formed terms, words of the spec's tables decoded, one-step vectors of 95_test_vectors.md, and for each obligation with hypotheses a state that meets them. Expected values are the spec's; a line names its vector. -/

namespace Sys2Proof.Tests

-- One proof at a time: in the joined file, many waiting threads would pass the memory limit.
set_option Elab.async false

open Sys2Proof Sys2Proof.Machine

/-! ## Small configurations and states -/

/-- P1: plasma, 4×2 with one padding column, big-endian byte view. -/
def strapsP1 : Straps where
  mode := .plasma
  hres := 4
  vres := 2
  stride := 5
  rscale := 1024
  gscale := 512
  bscale := 256
  phaseInitR := 1000
  phaseInitG := 2000
  phaseInitB := 3000
  sineTable := sineDefault
  palette := #v[0x0000, 0xF800, 0x07E0, 0x001F, 0xFFE0, 0xF81F, 0x07FF, 0xFFFF]
  framePeriod := 40
  byteOrder := .big

def cfgP1 : Config := ⟨strapsP1, Straps.legal_of_default rfl (by decide) (by decide) (by decide)⟩

/-- P2: solid fill, 2×2 with one padding column. -/
def cfgP2 : Config :=
  ⟨{ strapsP1 with mode := .solid, hres := 2, stride := 3, byteOrder := .little },
    Straps.legal_of_default rfl (by decide) (by decide) (by decide)⟩

/-- P3: the scenario of §8, scales 1, 2, 5. -/
def cfgP3 : Config :=
  ⟨{ strapsP1 with
      hres := 16
      vres := 16
      stride := 16
      rscale := 1
      gscale := 2
      bscale := 5 },
    Straps.legal_of_default rfl (by decide) (by decide) (by decide)⟩

/-- V34, V35: scales 64, 100, 200. -/
def cfgV34 : Config :=
  ⟨{ strapsP1 with rscale := 64, gscale := 100, bscale := 200 },
    Straps.legal_of_default rfl (by decide) (by decide) (by decide)⟩

/-- One pixel (R144, HRES = VRES = 1). -/
def cfgOne : Config :=
  ⟨{ strapsP1 with hres := 1, vres := 1, stride := 2 },
    Straps.legal_of_default rfl (by decide) (by decide) (by decide)⟩

/-- An environment that offers `a` to an Alloc and completes Submit and Wait if `done`. -/
def env (a : Option AllocReply) (done : Bool) : Env := ⟨[⟨none, [], a, done, done⟩], 0⟩

/-- An environment with a host action at the coming boundary. -/
def hostEnv (h : HostAction) : Env := ⟨[⟨some h, [], none, false, false⟩], 0⟩

/-- A state right after reset, moved to a state of the sequencer. -/
def at_ (c : Config) (q : BitVec 3) (x y : Coord) (held : Option Handle) (e : Env) : State :=
  { State.resetWith c e with seq := q, cx := x, cy := y, buf := held, bufv := held.isSome }

/-- A state with call arguments and a pending direct call. -/
def calling (c : Config) (n : BitVec 3) (a : CallArgs) : State :=
  { State.resetWith c (env none false) with bench := ⟨some n, a, none⟩ }

/-- The value a direct call returns. -/
def returned (i : Instr) (s : State) : Option Int :=
  match exec i s with
  | .next t => t.bench.result
  | _ => none

/-- What an operation leaves in the registers. -/
def after {α : Type} (o : Host.Outcome State Fault Refusal) (f : State → α) : Option α :=
  match o with
  | .next t => some (f t)
  | _ => none

def noArgs : CallArgs := Bench.idle.args

/-! ## WellFormed: one ill-formed term for each check -/

theorem test_check_hres : { strapsP1 with hres := 0 }.check = some .hres := by decide +kernel
theorem test_check_stride : { strapsP1 with stride := 3 }.check = some .stride := by decide +kernel
theorem test_check_vres : { strapsP1 with vres := 65536 }.check = some .vres := by decide +kernel
theorem test_check_anchors :
    { strapsP1 with sineTable := sineDefault.set 64 126 }.check = some .sineAnchors := by
  decide +kernel
theorem test_check_antisymmetric :
    { strapsP1 with sineTable := sineDefault.set 1 4 }.check = some .sineAntisymmetric := by
  decide +kernel
theorem test_check_approx :
    { strapsP1 with sineTable := (sineDefault.set 1 9).set 129 (-9) }.check = some .sineApprox := by
  decide +kernel
theorem test_check_legal : strapsP1.check = none := by decide +kernel
theorem test_wf_reserved : Instr.WellFormed .reserved6 = false ∧ Instr.WellFormed .gen = true := by
  decide

/-! ## Decoding: words written out from the tables of R82 and R83 -/

theorem test_decode_sequencer :
    [0b0000, 0b0001, 0b0010, 0b0011, 0b0100, 0b0101, 0b0110, 0b0111].map (decodeTableWord 8) =
      [some .acq, some .pix, some .sub, some .adv, some .wait, some .halt,
        some .reserved6, some .reserved7] := by decide
theorem test_decode_functions :
    [0b1000, 0b1001, 0b1010, 0b1011, 0b1100, 0b1101, 0b1110, 0b1111].map (decodeTableWord 8) =
      [some .sine, some .arg, some .chan, some .pack565, some .plasma, some .solid, some .addr,
        some .gen] := by decide
theorem test_decode_refuses :
    decodeTableWord 8 0x10 = none ∧ decodeTableWord 8 0xF1 = none ∧ decodeTableWord 0 0 = none := by
  decide
/-- P1: the encoding of one iteration, `0000 0001×8 0010 0011 0100`. -/
theorem test_encode_frame_P1 :
    encodeTrace (frameOps cfgP1) = [0, 1, 1, 1, 1, 1, 1, 1, 1, 2, 3, 4] := by decide +kernel

/-! ## One-step vectors -/

/-- V120. -/
theorem test_acq_ok :
    after (exec .acq (at_ cfgP1 seqAcq 0 0 none (env (some (.ok 1 [])) false)))
      (fun t => (t.seq, t.cx, t.cy, t.bufv, t.buf)) = some (seqPix, 0, 0, true, some 1) := by
  decide +kernel
/-- V121. -/
theorem test_acq_fail :
    after (exec .acq (at_ cfgP1 seqAcq 0 0 none (env (some .fail) false)))
      (fun t => (t.seq, t.bufv, t.buf, t.rstart)) = some (seqHalt, false, none, 1000) := by
  decide +kernel
/-- V123: end of a row; P1's store at (3, 0). -/
theorem test_pix_end_of_row :
    after (exec .pix (at_ cfgP1 seqPix 3 0 (some 1) (env none false)))
      (fun t => (t.seq, t.cx, t.cy, t.fbRead 1 3, t.fbRead 1 4)) =
      some (seqPix, 0, 1, some 0xD73E, none) := by decide +kernel
/-- V124: end of the frame; P1's store at (3, 1). -/
theorem test_pix_end_of_frame :
    after (exec .pix (at_ cfgP1 seqPix 3 1 (some 1) (env none false)))
      (fun t => (t.seq, t.cx, t.cy, t.trace)) = some (seqSub, 0, 0, [.fbWrite 1 8 0xFFDC]) := by
  decide +kernel
/-- V125. -/
theorem test_sub :
    after (exec .sub (at_ cfgP1 seqSub 0 0 (some 1) (env none true)))
      (fun t => (t.seq, t.bufv, t.buf, t.trace)) = some (seqAdv, false, none, [.submit 1]) := by
  decide +kernel
/-- V128: wrap modulo 2^32. -/
theorem test_adv_plasma_wraps :
    after (exec .adv { at_ cfgP1 seqAdv 0 0 none (env none false) with
      rstart := 4294967291, gstart := 4294967289, bstart := 4294967295 })
      (fun t => (t.seq, t.rstart, t.gstart, t.bstart, t.counter)) =
      some (seqWait, 6, 0, 4, 0) := by decide +kernel
/-- V127. -/
theorem test_adv_solid :
    after (exec .adv { at_ cfgP2 seqAdv 0 0 none (env none false) with counter := 7 })
      (fun t => (t.seq, t.counter, t.rstart)) = some (seqWait, 8, 1000) := by decide +kernel
/-- V130. -/
theorem test_wait :
    after (exec .wait (at_ cfgP1 seqWait 0 0 none (env none true)))
      (fun t => (t.seq, t.trace)) = some (seqAcq, [.wait 40]) := by decide +kernel
/-- V131: HALT, whatever the environment offers. -/
theorem test_halt :
    after (step (at_ cfgP1 seqHalt 0 0 none (env (some (.ok 1 [])) true)))
      (fun t => (t.seq, t.trace, t.rstart)) = some (seqHalt, [], 1000) := by decide +kernel
/-- V133: RESET with a buffer in hand. -/
theorem test_reset_abandons :
    after (step { at_ cfgP1 seqPix 2 1 (some 1) (hostEnv .reset) with rstart := 5 })
      (fun t => (t.seq, t.cx, t.cy, t.buf, t.rstart)) =
      some (seqAcq, 0, 0, none, 1000) := by decide +kernel
/-- M6: after RESET or TERMINATE the held buffer 1 may hold anything; buffer 2 is as it was. -/
theorem test_abandoned_contents : ∀ a ∈ [HostAction.reset, .terminate],
    after (step (((at_ cfgP1 seqPix 2 1 (some 1) (hostEnv a)).fbWrite 1 0 5).fbWrite 2 0 6))
      (fun t => (t.fbRead 1 0, t.fbRead 2 0)) = some (none, some 6) := by decide +kernel
/-- R84. -/
theorem test_reserved :
    exec .reserved6 State.reset = .refused (.reservedSeq 6) ∧
      exec .reserved7 State.reset = .refused (.reservedSeq 7) := ⟨rfl, rfl⟩
/-- R58, P1: what the allocator left is known, and only inside the buffer. -/
theorem test_acq_contents :
    after (exec .acq (at_ cfgP1 seqAcq 0 0 none (env (some (.ok 1 [(4, 0xDEAD), (10, 1)])) false)))
      (fun t => (t.fbRead 1 4, t.fbRead 1 5, t.fbRead 1 10)) = some (some 0xDEAD, none, none) := by
  decide +kernel

/-- V22, V27: a negative argument and one above the table. -/
theorem test_sine :
    returned .sine (calling cfgP1 0 { noArgs with p := -1 }) = some (-3) ∧
      returned .sine (calling cfgP1 0 { noArgs with p := 1000 }) = some (-71) := by decide +kernel
/-- V23, V28. -/
theorem test_sine_extremes :
    returned .sine (calling cfgP1 0 { noArgs with p := -64 }) = some (-127) ∧
      returned .sine (calling cfgP1 0 { noArgs with p := 4294967295 }) = some (-3) := by
  decide +kernel
/-- V42. -/
theorem test_arg :
    returned .arg (calling cfgP1 1 { noArgs with phase := 666, coord := 15, scale := 2 }) = some 43 := by
  decide +kernel
/-- V52: the multiply wraps. -/
theorem test_arg_wraps :
    returned .arg (calling cfgP1 1 { noArgs with coord := 65534, scale := 4294967295 }) =
      some 268431360 := by decide +kernel
/-- V77: a negative product rounds toward −∞. -/
theorem test_chan_negative :
    returned .chan (calling cfgP1 2 { noArgs with phase := 1000, x := 2, scale := 1024 }) =
      some (-127) := by decide +kernel
/-- V65: asr(−1, 7) is −1, not 0. -/
theorem test_chan_rounding :
    asr (sineProduct (-1) 1).toInt prodShift = -1 ∧ maskLow (-1) 6 = 63 := by decide +kernel
/-- V85, V90. -/
theorem test_pack565 :
    returned .pack565 (calling cfgP1 3 { noArgs with r := -127, g := 126, b := -64 }) = some 0x0FC0 ∧
      returned .pack565 (calling cfgP1 3 { noArgs with r := -127, g := -127, b := -127 }) =
        some 0x0821 := by decide +kernel
/-- V84. -/
theorem test_pack565_wraps :
    returned .pack565 (calling cfgP1 3 { noArgs with r := 32, g := 64, b := 32 }) = some 0 := by
  decide +kernel
/-- V30: the golden pixel. -/
theorem test_plasma_golden :
    returned .plasma (calling cfgP3 4 { noArgs with rstart := 555, gstart := 666, bstart := 777 }) =
      some 0x2B2A := by decide +kernel
/-- V35. -/
theorem test_plasma_off_diagonal :
    returned .plasma (calling cfgV34 4
      { noArgs with x := 3, y := 2, rstart := 100, gstart := 200, bstart := 300 }) = some 0x964C := by
  decide +kernel
/-- V103 and V105, with P2's palette. -/
theorem test_solid :
    returned .solid (calling cfgP2 5 { noArgs with counter := 13 }) = some 0xF81F ∧
      returned .solid (calling cfgP2 5 { noArgs with counter := 4294967295 }) = some 0xFFFF := by
  decide +kernel
/-- V113, V112. -/
theorem test_addr :
    returned .addr (calling cfgP1 6 { noArgs with x := 3, y := 1 }) = some 8 ∧
      returned .addr (calling cfgP1 6 { noArgs with y := 1 }) = some 5 := by decide +kernel
/-- R141: MODE = SOLID, COUNTER = 9. -/
theorem test_gen_solid :
    returned .gen { calling cfgP2 7 { noArgs with x := 3, y := 1 } with counter := 9 } = some 0xF800 := by
  decide +kernel
/-- P1: pixel (0, 0) of frame 0. -/
theorem test_gen_plasma : returned .gen (calling cfgP1 7 noArgs) = some 0xF01C := by decide +kernel
/-- R55: the two byte orders of one element. -/
theorem test_byte_order :
    Memory.writeElem [] .little 0 1 0xF01C = [(2, 0x1C), (3, 0xF0)] ∧
      Memory.writeElem [] .big 0 1 0xF01C = [(2, 0xF0), (3, 0x1C)] := by decide +kernel
/-- A direct call runs at the next step and is then used up (log 13). -/
theorem test_step_call :
    after (step (calling cfgP1 1 { noArgs with phase := 16 }))
      (fun t => (t.bench.request, t.bench.result, t.seq)) = some (none, some 1, seqAcq) := by
  decide +kernel

end Sys2Proof.Tests
end

