-- ==== Sys2Proof/Tests/Witness.lean ====
section
/-! SUPPORT. For each obligation with hypotheses, and for each of its clauses, a concrete state and operands that meet them together, at a boundary of their range where there is one. -/

namespace Sys2Proof.Tests

-- One proof at a time: in the joined file, many waiting threads would pass the memory limit.
set_option Elab.async false

open Sys2Proof Sys2Proof.Machine

/-- An input that completes every transaction with a fresh buffer of handle 1. -/
def answer1 : EnvInput := ⟨none, [], some (.ok 1 []), true, true⟩

/-- Where `at_` puts the machine on a state of R45. -/
theorem inv_at {c : Config} {q : BitVec 3} {x y : Coord} {held : Option Handle} {e : Env}
    (h1 : q.toNat ≤ 5) (h2 : held.isSome = true ↔ q = seqPix ∨ q = seqSub)
    (h3 : q = seqPix → x.toNat < c.straps.hres ∧ y.toNat < c.straps.vres)
    (h4 : q ≠ seqPix → x = 0 ∧ y = 0) : (at_ c q x y held e).Inv :=
  ⟨h1, h2, Iff.rfl, h3, h4, List.Pairwise.nil⟩

/-- One pixel of P1's frame stored: the cursor stands on (1, 0). -/
def partly : State :=
  ((at_ cfgP1 seqPix 0 0 (some 1) (env none true)).fbWrite 1
    (addr cfgP1 0 0) (gen (at_ cfgP1 seqPix 0 0 (some 1) (env none true)) 0 0)).setCursor 1 0

/-- The one pixel of a 1×1 frame stored: SEQ = SUB. -/
def whole : State :=
  ((at_ cfgOne seqPix 0 0 (some 1) (env none true)).fbWrite 1
    (addr cfgOne 0 0) (gen (at_ cfgOne seqPix 0 0 (some 1) (env none true)) 0 0)).setSeq seqSub

theorem witness_quiet_reserved : ∃ s : State, s.Quiet ∧ s.seq = 6 :=
  ⟨at_ cfgP1 6 0 0 none (env none false), ⟨rfl, by decide +kernel, rfl, rfl⟩, rfl⟩
theorem witness_quiet_reserved7 : ∃ s : State, s.Quiet ∧ s.seq = 7 :=
  ⟨at_ cfgP1 7 0 0 none (env none false), ⟨rfl, by decide +kernel, rfl, rfl⟩, rfl⟩
theorem witness_reserved_kept : ∃ i s t, exec i s = .next t ∧ 6 ≤ t.seq.toNat :=
  ⟨.halt, at_ cfgP1 6 0 0 none (env none false), _, rfl, by decide⟩
theorem witness_step_runs : ∃ (s : State) (i : Instr), s.terminated = false ∧ s.envBreach = none ∧
    s.input.host = none ∧ decode [s.fetchOp.setWidth 8] = .ok (i, []) ∧ s.bench.request = none ∧
    s.env.script ≠ [] :=
  ⟨at_ cfgP1 seqAdv 0 0 none (env none false), .adv, rfl, by decide +kernel, rfl, rfl, rfl, by decide⟩
theorem witness_step_runs_call : ∃ (s : State) (n : BitVec 3), s.terminated = false ∧
    s.envBreach = none ∧ s.input.host = none ∧
    decode [s.fetchOp.setWidth 8] = .ok (.gen, []) ∧ s.bench.request = some n :=
  ⟨calling cfgP1 7 noArgs, 7, rfl, by decide +kernel, rfl, rfl, rfl⟩
theorem witness_script_used_up : State.reset.env.script = [] := rfl
theorem witness_reset : ∃ s : State, s.terminated = false ∧ s.envBreach = none ∧
    s.input.host = some .reset ∧ s.seq = seqHalt :=
  ⟨at_ cfgP1 seqHalt 0 0 none (hostEnv .reset), rfl, by decide +kernel, rfl, rfl⟩
theorem witness_terminate : ∃ s : State, s.terminated = false ∧ s.envBreach = none ∧
    s.input.host = some .terminate :=
  ⟨at_ cfgP1 seqPix 1 1 (some 1) (hostEnv .terminate), rfl, by decide +kernel, rfl⟩
/-- RESET with a buffer held, which is abandoned. -/
theorem witness_reset_held : ∃ s : State, s.terminated = false ∧ s.envBreach = none ∧
    s.input.host = some .reset ∧ s.applyEnvStores.heldBuffer = some 1 :=
  ⟨at_ cfgP1 seqPix 1 1 (some 1) (hostEnv .reset), rfl, by decide +kernel, rfl, rfl⟩
theorem witness_breach : ∃ (s : State) (h : Handle) (st : EnvStore), s.terminated = false ∧
    s.heldBuffer = some h ∧ st ∈ s.input.stores ∧ st.handle = h :=
  ⟨at_ cfgP1 seqPix 0 0 (some 1) ⟨[⟨none, [⟨1, 0, 0⟩], none, false, false⟩], 0⟩, 1, ⟨1, 0, 0⟩, rfl,
    by decide +kernel, List.mem_cons_self, rfl⟩
theorem witness_acq : (∃ (s : State) (h : Handle) (c : List (ElemIdx × Pixel)),
      s.input.alloc = some (.ok h c)) ∧ (∃ s : State, s.input.alloc = some .fail) ∧
    (∃ s : State, s.input.alloc = none) :=
  ⟨⟨at_ cfgP1 0 0 0 none (env (some (.ok 1 [])) false), 1, [], rfl⟩,
    ⟨at_ cfgP1 0 0 0 none (env (some .fail) false), rfl⟩,
    ⟨at_ cfgP1 0 0 0 none (env none false), rfl⟩⟩
/-- Index 9 is the last element of P1's buffer. -/
theorem witness_fresh : ∃ (s : State) (h : Handle) (c : List (ElemIdx × Pixel)),
    s.input.alloc = some (.ok h c) ∧ c.Pairwise (fun a b => a.1 ≠ b.1) ∧
    ((9 : ElemIdx), (0xDEAD : Pixel)) ∈ c ∧ (9 : ElemIdx).toNat < s.cfg.straps.stride * s.cfg.straps.vres ∧
    ∀ e ∈ c, e.1 ≠ 8 :=
  ⟨at_ cfgP1 0 0 0 none (env (some (.ok 1 [(4, 0xDEAD), (9, 0xDEAD)])) false), 1,
    [(4, 0xDEAD), (9, 0xDEAD)], rfl, by simp, by simp, by decide +kernel, by simp⟩
theorem witness_alloc_fail : ∃ s : State, s.Quiet ∧ s.seq = seqAcq ∧ s.input.alloc = some .fail :=
  ⟨at_ cfgP1 seqAcq 0 0 none (env (some .fail) false), ⟨rfl, by decide +kernel, rfl, rfl⟩, rfl, rfl⟩
theorem witness_halt : ∃ s t : State, s.seq = seqHalt ∧ step s = .next t ∧
    s.input.host ≠ some .reset :=
  ⟨at_ cfgP1 seqHalt 0 0 none (env none false), _, rfl, rfl, by decide⟩
theorem witness_halt_inv : ∃ s : State, s.seq = seqHalt ∧ s.Inv :=
  ⟨at_ cfgP1 seqHalt 0 0 none (env none false), rfl,
    inv_at (by decide) (by decide) (by decide) (by decide)⟩
/-- The three cases of the cursor: inside a row, at its end, at the end of the frame. -/
theorem witness_pix : ∃ s1 s2 s3 : State,
    (∀ s ∈ [s1, s2, s3], s.heldBuffer = some 1 ∧ s.cx.toNat < s.cfg.straps.hres ∧
      s.cy.toNat < s.cfg.straps.vres) ∧
    s1.cx.toNat + 1 < s1.cfg.straps.hres ∧
    (¬s2.cx.toNat + 1 < s2.cfg.straps.hres ∧ s2.cy.toNat + 1 < s2.cfg.straps.vres) ∧
    (¬s3.cx.toNat + 1 < s3.cfg.straps.hres ∧ ¬s3.cy.toNat + 1 < s3.cfg.straps.vres) :=
  ⟨at_ cfgP1 seqPix 2 0 (some 1) (env none false), at_ cfgP1 seqPix 3 0 (some 1) (env none false),
    at_ cfgP1 seqPix 3 1 (some 1) (env none false), by decide +kernel, by decide +kernel,
    by decide +kernel, by decide +kernel⟩
/-- Elements 4 and 9 are P1's padding. -/
theorem witness_padding : ∃ (s t : State) (h : Handle) (idx : ElemIdx), s.heldBuffer = some h ∧
    exec .pix s = .next t ∧ s.cfg.straps.hres ≤ idx.toNat % s.cfg.straps.stride :=
  ⟨at_ cfgP1 seqPix 3 0 (some 1) (env none false), _, 1, 4, rfl, rfl, by decide⟩
/-- The last pixel of the frame. -/
theorem witness_index : ∃ (s t : State) (h : Handle), s.heldBuffer = some h ∧
    exec .pix s = .next t ∧ s.cx = 3 ∧ s.cy = 1 :=
  ⟨at_ cfgP1 seqPix 3 1 (some 1) (env none false), _, 1, rfl, rfl, rfl, rfl⟩
theorem witness_outside : ∃ (s t : State) (h : Handle) (idx : ElemIdx) (v : Pixel),
    s.heldBuffer = some h ∧ exec .pix s = .next t ∧
    t.trace = .fbWrite h 8 v :: s.trace ∧ s.cfg.straps.stride * s.cfg.straps.vres ≤ idx.toNat :=
  ⟨at_ cfgP1 seqPix 3 1 (some 1) (env none false), _, 1, 10, _, rfl, rfl, rfl, by decide⟩
/-- Two stores to the last element of P1's buffer, and one beyond it. -/
def storing : State :=
  at_ cfgP1 seqAcq 0 0 none ⟨[⟨none, [⟨2, 9, 5⟩, ⟨2, 9, 6⟩, ⟨2, 10, 7⟩], none, false, false⟩], 0⟩
theorem witness_env_stores :
    storing.input.stores = [⟨2, 9, 5⟩] ++ ⟨2, 9, 6⟩ :: [⟨2, 10, 7⟩] ∧
    (∀ st ∈ [(⟨2, 10, 7⟩ : EnvStore)], st.handle ≠ 2 ∨ st.index ≠ 9) ∧
    (∀ st ∈ storing.input.stores, st.handle ≠ 2 ∨ st.index ≠ 8) ∧
    (∀ st ∈ storing.input.stores, elemAddr 2 8 ≠ elemAddr st.handle st.index ∧
      elemAddr 2 8 ≠ elemAddr st.handle st.index + 1) := by
  refine ⟨rfl, ?_, ?_, ?_⟩ <;> simp [storing, at_, State.resetWith, State.input, elemAddr]
theorem witness_short : ∃ (s : State) (h : Handle), s.input.alloc = some (.short h) :=
  ⟨at_ cfgP1 seqAcq 0 0 none (env (some (.short 1)) false), 1, rfl⟩
theorem witness_broken : (∃ s : State, s.bufv = false) ∧ (∃ s : State, s.bufv = true ∧ s.buf = none) ∧
    (∃ (s : State) (h : Handle), s.heldBuffer = some h ∧ s.cfg.straps.hres ≤ s.cx.toNat) ∧
    (∃ (s : State) (h : Handle), s.heldBuffer = some h ∧ s.cfg.straps.vres ≤ s.cy.toNat) :=
  ⟨⟨State.reset, rfl⟩, ⟨{ State.reset with bufv := true }, rfl, rfl⟩,
    ⟨at_ cfgP1 seqPix 4 0 (some 1) (env none false), 1, rfl, by decide⟩,
    ⟨at_ cfgP1 seqPix 0 2 (some 1) (env none false), 1, rfl, by decide⟩⟩
theorem witness_sub : ∃ s1 s2 : State, s1.heldBuffer = some 1 ∧ s1.input.submitted = true ∧
    s2.heldBuffer = some 1 ∧ s2.input.submitted = false :=
  ⟨at_ cfgP1 seqSub 0 0 (some 1) (env none true), at_ cfgP1 seqSub 0 0 (some 1) (env none false),
    rfl, rfl, rfl, rfl⟩
theorem witness_modes : cfgP1.straps.mode = .plasma ∧ cfgP2.straps.mode = .solid := ⟨rfl, rfl⟩
theorem witness_wait : ∃ s1 s2 : State, s1.input.waited = true ∧ s2.input.waited = false :=
  ⟨at_ cfgP1 seqWait 0 0 none (env none true), at_ cfgP1 seqWait 0 0 none (env none false), rfl, rfl⟩
theorem witness_sine : ∃ (p : Int) (i : Fin 256), (i.val : Int) = p % 256 ∧ i = 255 :=
  ⟨-1, 255, by decide, rfl⟩
/-- V47: t = 4095, the last entry. -/
theorem witness_arg : ∃ (phase scale : Word) (coord : Coord) (i : Fin 256),
    i.val = (phase.toNat + coord.toNat * scale.toNat) % 4096 / 16 ∧ i = 255 :=
  ⟨4095, 1, 0, 255, by decide, rfl⟩
theorem witness_solid : ∃ (counter : Word) (i : Fin 8), i.val = counter.toNat % 8 ∧ i = 7 :=
  ⟨4294967295, 7, by decide, rfl⟩
theorem witness_edge : ∃ x y : Coord, (x = 0 ∨ y = 0) ∧ x = 65535 := ⟨65535, 0, .inr rfl, rfl⟩
theorem witness_unanswered : ∃ s1 s2 s3 : State,
    (s1.Quiet ∧ s1.seq = seqAcq ∧ s1.input.alloc = none) ∧
    (s2.Quiet ∧ s2.seq = seqSub ∧ s2.heldBuffer = some 1 ∧ s2.input.submitted = false) ∧
    (s3.Quiet ∧ s3.seq = seqWait ∧ s3.input.waited = false) :=
  ⟨at_ cfgP1 seqAcq 0 0 none (env none false), at_ cfgP1 seqSub 0 0 (some 1) (env none false),
    at_ cfgP1 seqWait 0 0 none (env none false),
    ⟨⟨rfl, by decide +kernel, rfl, rfl⟩, rfl, rfl⟩, ⟨⟨rfl, by decide +kernel, rfl, rfl⟩, rfl, rfl, rfl⟩,
    ⟨⟨rfl, by decide +kernel, rfl, rfl⟩, rfl, rfl⟩⟩
theorem witness_visible : Visible cfgP1 3 1 ∧ Visible cfgP1 0 0 ∧ ((3, 1) : Coord × Coord) ≠ (0, 0) ∧
    Memory.wf [] := by unfold Visible; decide
theorem witness_addr_equal : ∃ x y x' y' : Coord, Visible cfgP1 x y ∧ Visible cfgP1 x' y' ∧
    addr cfgP1 x y = addr cfgP1 x' y' := ⟨3, 1, 3, 1, by unfold Visible; decide⟩
theorem witness_default_table : cfgP1.straps.sineTable = sineDefault := rfl
theorem witness_sine_bounds : (0 ≤ 64 ∧ 64 ≤ 64) ∧ (0 < 256 ∧ 255 < 256) ∧ (0 < 64 ∧ 63 < 64) := by
  decide
theorem witness_width : 12 ≤ 12 ∧ 12 ≤ 32 := by decide
theorem witness_solid_frame : ∃ (s : State) (i : Fin 8), s.cfg.straps.mode = .solid ∧ s.counter = 0 ∧
    i.val = 15 % 8 := ⟨State.resetWith cfgP2 (env none false), 7, rfl, rfl, rfl⟩
theorem witness_inv_step : ∃ s t : State, s.Inv ∧ step s = .next t ∧ t.seq = seqPix :=
  ⟨at_ cfgP1 seqPix 3 0 (some 1) (env none false), _,
    inv_at (by decide) (by decide) (by decide) (by decide), rfl, by decide +kernel⟩

theorem partly_inv : partly.Inv :=
  ⟨by decide, by decide, by decide, fun _ => by decide, fun h => absurd rfl h, by
    show Memory.wf (Memory.writeElem _ _ _ _ _)
    exact Memory.wf_writeElem List.Pairwise.nil _ _ _ _⟩
theorem partly_filled : partly.FrameFilled where
  partly h x y _ _ hh _ hb := by
    obtain ⟨rfl, rfl⟩ : x = 0 ∧ y = 0 := by
      have hb' : y.toNat < 0 ∨ (y = 0 ∧ x.toNat < 1) := hb
      rcases hb' with hb' | ⟨rfl, hb'⟩
      · omega
      · exact ⟨BitVec.eq_of_toNat_eq (by show x.toNat = 0; omega), rfl⟩
    obtain rfl : 1 = h := Option.some.inj ((show partly.heldBuffer = some 1 from rfl).symm.trans hh)
    exact State.fbRead_fbWrite_self _ _ _ _
  whole _ _ _ _ hs := absurd (show partly.seq = seqSub from hs) (by decide)
theorem whole_inv : whole.Inv :=
  ⟨by decide, by decide, by decide, fun h => absurd h (by decide), fun _ => ⟨rfl, rfl⟩, by
    show Memory.wf (Memory.writeElem _ _ _ _ _)
    exact Memory.wf_writeElem List.Pairwise.nil _ _ _ _⟩
theorem whole_filled : whole.FrameFilled where
  partly _ _ _ _ hs := absurd (show whole.seq = seqPix from hs) (by decide)
  whole h x y _ _ hh hv := by
    have h1 : x.toNat < 1 := hv.1
    have h2 : y.toNat < 1 := hv.2
    obtain rfl : x = 0 := BitVec.eq_of_toNat_eq (by show x.toNat = 0; omega)
    obtain rfl : y = 0 := BitVec.eq_of_toNat_eq (by show y.toNat = 0; omega)
    obtain rfl : 1 = h := Option.some.inj ((show whole.heldBuffer = some 1 from rfl).symm.trans hh)
    exact State.fbRead_fbWrite_self _ _ _ _
/-- A step from the middle of a frame, with its first pixel stored. -/
theorem witness_content_pix : ∃ s t : State, s.Inv ∧ s.FrameFilled ∧ step s = .next t ∧
    s.seq = seqPix ∧ s.heldBuffer = some 1 ∧ before 0 0 s.cx s.cy :=
  ⟨partly, _, partly_inv, partly_filled, rfl, rfl, rfl, .inr ⟨rfl, by decide⟩⟩
/-- A step from SUB, with the frame stored. -/
theorem witness_content_sub : ∃ s t : State, s.Inv ∧ s.FrameFilled ∧ step s = .next t ∧
    s.seq = seqSub ∧ s.heldBuffer = some 1 :=
  ⟨whole, _, whole_inv, whole_filled, rfl, rfl, rfl⟩
theorem witness_owns : ∃ s t : State, s.Inv ∧ s.OwnsWhatItHolds ∧ step s = .next t ∧
    s.heldBuffer = some 1 :=
  ⟨(at_ cfgP1 seqPix 3 1 (some 1) (env none false)).issue (.allocOk 1), _,
    ⟨by decide, by decide, by decide, fun _ => by decide, fun h => absurd rfl h, List.Pairwise.nil⟩,
    ⟨trivial, fun _ h => h⟩, rfl, rfl⟩
theorem witness_only_adv : ∃ s t : State, step s = .next t ∧ s.input.host ≠ some .reset ∧
    s.fetched ≠ .adv :=
  ⟨at_ cfgP1 seqWait 0 0 none (env none true), _, rfl, by decide, by decide⟩
theorem witness_inactive : ∃ s1 t1 s2 t2 : State, step s1 = .next t1 ∧ step s2 = .next t2 ∧
    s1.input.host ≠ some .reset ∧ s2.input.host ≠ some .reset ∧ s1.fetched = .adv ∧
    s2.fetched = .adv ∧ s1.cfg.straps.mode = .plasma ∧ s2.cfg.straps.mode = .solid :=
  ⟨at_ cfgP1 seqAdv 0 0 none (env none true), _, at_ cfgP2 seqAdv 0 0 none (env none true), _, rfl, rfl,
    by decide, by decide, rfl, rfl, rfl, rfl⟩
theorem witness_transition : ∀ q : BitVec 3, q.toNat ≤ 5 →
    ∃ s t : State, s.Quiet ∧ step s = .next t ∧ s.seq = q := by
  have quiet : ∀ (q : BitVec 3) (held : Option Handle),
      (at_ cfgP1 q 0 0 held ⟨[answer1], 0⟩).Quiet :=
    fun q held => ⟨rfl, by cases held <;> rfl, rfl, rfl⟩
  have all : ∀ q : BitVec 3, q.toNat ≤ 5 →
      q = seqAcq ∨ q = seqPix ∨ q = seqSub ∨ q = seqAdv ∨ q = seqWait ∨ q = seqHalt := by decide
  intro q hq
  rcases all q hq with rfl | rfl | rfl | rfl | rfl | rfl
  · exact ⟨_, _, quiet _ none, rfl, rfl⟩
  · exact ⟨_, _, quiet _ (some 1), rfl, rfl⟩
  · exact ⟨_, _, quiet _ (some 1), rfl, rfl⟩
  · exact ⟨_, _, quiet _ none, rfl, rfl⟩
  · exact ⟨_, _, quiet _ none, rfl, rfl⟩
  · exact ⟨_, _, quiet _ none, rfl, rfl⟩

/-- A 1×1 frame: five steps to the iteration. The last boundary's input stores into the submitted buffer. -/
def iterating : State :=
  at_ cfgOne seqAcq 0 0 none ⟨List.replicate 4 answer1 ++ [{ answer1 with stores := [⟨1, 0, 7⟩] }], 0⟩

theorem witness_iteration : ∃ s : State, s.Inv ∧ s.terminated = false ∧ s.bench.request = none ∧
    s.seq = seqAcq ∧ s.seq ≠ seqHalt ∧ s.input.alloc = some (.ok 1 []) ∧
    ∀ k u, k < s.cfg.straps.hres * s.cfg.straps.vres + 4 → Reaches s k u →
      u.Undisturbed ∧ u.Answered := by
  refine ⟨iterating, inv_at (by decide) (by decide) (by decide) (by decide), rfl, rfl, rfl, by decide,
    rfl, fun k u hk hu => ?_⟩
  have hk : k < 5 := hk
  match k, hk with
  | 0, _ | 1, _ | 2, _ | 3, _ | 4, _ =>
    cases hu
    exact ⟨⟨rfl, rfl, fun _ _ e => (by cases e)⟩, fun _ e => (by cases e), fun _ => rfl, fun _ => rfl⟩

/-- Every transaction is answered at the second boundary after it began. -/
def late : State :=
  let no : EnvInput := ⟨none, [], none, false, false⟩
  at_ cfgOne seqWait 0 0 none ⟨[no, answer1, no, answer1, no, no, answer1], 0⟩

theorem witness_late : ∃ s : State, s.Inv ∧ s.terminated = false ∧ s.bench.request = none ∧
    s.input.waited = false ∧
    ∀ k u, Reaches s k u → (∀ j v, j ≤ k → Reaches s j v → ¬EndedSince s v) →
      u.Undisturbed ∧ u.FAlloc ∧ u.FSubmit ∧ u.FWait := by
  refine ⟨late, inv_at (by decide) (by decide) (by decide) (by decide), rfl, rfl, rfl,
    fun k u hu hn => ?_⟩
  by_cases hk : k < 7
  · match k, hk with
    | 0, _ | 1, _ | 2, _ | 3, _ | 4, _ | 5, _ | 6, _ =>
      cases hu
      refine ⟨⟨rfl, rfl, fun _ _ e => ?_⟩, fun h => ?_, fun h => ?_, fun h => ?_⟩
      · cases e
      all_goals first
        | exact absurd h (by decide)
        | exact ⟨0, rfl⟩
        | exact ⟨1, rfl⟩
        | exact ⟨0, Option.some_ne_none _⟩
        | exact ⟨1, Option.some_ne_none _⟩
  · exact absurd (.inr ⟨1, [.fbWrite 1 0 _, .allocOk 1, .wait 40], rfl⟩) (hn 7 _ (by omega) rfl)

end Sys2Proof.Tests
end

/-! The registers of the state after reset (R46), one lemma per field as Laws/State.lean has them for the updates, and O38, which collects them. -/

namespace Sys2Proof.Machine

section
variable (cfg : Config) (env : Env)

@[simp] theorem State.resetWith_cfg : (State.resetWith cfg env).cfg = cfg := rfl
@[simp] theorem State.resetWith_rstart :
    (State.resetWith cfg env).rstart = cfg.straps.phaseInitR := rfl
@[simp] theorem State.resetWith_gstart :
    (State.resetWith cfg env).gstart = cfg.straps.phaseInitG := rfl
@[simp] theorem State.resetWith_bstart :
    (State.resetWith cfg env).bstart = cfg.straps.phaseInitB := rfl
@[simp] theorem State.resetWith_counter : (State.resetWith cfg env).counter = 0 := rfl
@[simp] theorem State.resetWith_seq : (State.resetWith cfg env).seq = seqAcq := rfl
@[simp] theorem State.resetWith_cx : (State.resetWith cfg env).cx = 0 := rfl
@[simp] theorem State.resetWith_cy : (State.resetWith cfg env).cy = 0 := rfl
@[simp] theorem State.resetWith_bufv : (State.resetWith cfg env).bufv = false := rfl
@[simp] theorem State.resetWith_buf : (State.resetWith cfg env).buf = none := rfl

end

/-- Settles O38, one register after the other. -/
theorem resetValues : Obligations.ResetValues := fun cfg env =>
  ⟨State.resetWith_rstart cfg env, State.resetWith_gstart cfg env, State.resetWith_bstart cfg env,
    State.resetWith_counter cfg env, State.resetWith_seq cfg env, State.resetWith_cx cfg env,
    State.resetWith_cy cfg env, State.resetWith_bufv cfg env, State.resetWith_buf cfg env,
    State.resetWith_cfg cfg env⟩

end Sys2Proof.Machine

/-! Where the index of a store lies (R57, R142): visible pixels, the last of them, the buffer's size; and O16. -/

namespace Sys2Proof.Machine

/-- No visible pixel has an index above that of the last one, (HRES - 1, VRES - 1) (R142). -/
theorem addr_le_lastVisible {c : Config} {x y : Coord} (hv : Visible c x y) :
    (addr c x y).toNat ≤ (c.straps.vres - 1) * c.straps.stride + c.straps.hres - 1 := by
  obtain ⟨hx, hy⟩ := hv
  have hrow : y.toNat * c.straps.stride ≤ (c.straps.vres - 1) * c.straps.stride :=
    Nat.mul_le_mul_right _ (by omega)
  rw [addr_toNat]
  omega

/-- The index of the last visible pixel names an element of a buffer (R50, R57): HRES ≤ STRIDE. -/
theorem lastVisible_lt_bufferSize (c : Config) :
    (c.straps.vres - 1) * c.straps.stride + c.straps.hres - 1 < c.straps.stride * c.straps.vres := by
  have hh : 1 ≤ c.straps.hres := c.legal.hres
  have hs : c.straps.hres ≤ c.straps.stride := c.legal.stride.1
  have hv : 1 ≤ c.straps.vres := c.legal.vres.1
  calc (c.straps.vres - 1) * c.straps.stride + c.straps.hres - 1
      < (c.straps.vres - 1) * c.straps.stride + c.straps.stride := by omega
    _ = c.straps.stride * c.straps.vres := by
      rw [← Nat.succ_mul, Nat.succ_eq_add_one, Nat.sub_add_cancel hv, Nat.mul_comm]

/-- PIX at a visible cursor stores to an element of the buffer (R57). -/
theorem addr_lt_bufferSize {c : Config} {x y : Coord} (hv : Visible c x y) :
    (addr c x y).toNat < c.straps.stride * c.straps.vres :=
  (addr_le_lastVisible hv).trans_lt (lastVisible_lt_bufferSize c)

/-- The cursor's advance leaves every element as it was. -/
@[simp] theorem State.fbRead_advanceCursor (s : State) (h : Handle) (idx : ElemIdx) :
    s.advanceCursor.fbRead h idx = s.fbRead h idx := by
  simp [State.fbRead]

/-- An operation that issues FbWrite has stored at a visible cursor into the held buffer (R144, R149). -/
theorem ExecNext.of_fbWrite {i : Instr} {s t : State} {h : Handle} {idx : ElemIdx} {v : Pixel}
    (he : ExecNext s i t) (ht : t.trace = .fbWrite h idx v :: s.trace) :
    s.heldBuffer = some h ∧ Visible s.cfg s.cx s.cy ∧ idx = addr s.cfg s.cx s.cy := by
  cases he with
  | stored held hx hy =>
    rw [State.advanceCursor_trace, State.fbWrite_trace] at ht
    cases ht
    exact ⟨held, ⟨hx, hy⟩, rfl⟩
  | _ => simp at ht

/-- All that a PIX which completes can have done (R144). -/
theorem exec_pix_next {s t : State} (he : exec .pix s = .next t) :
    ∃ h, s.heldBuffer = some h ∧ Visible s.cfg s.cx s.cy ∧
      t = (s.fbWrite h (addr s.cfg s.cx s.cy) (gen s s.cx s.cy)).advanceCursor := by
  cases exec_next he with
  | stored held hx hy => exact ⟨_, held, ⟨hx, hy⟩, rfl⟩
  | stays why => simp at why
  | called fn => exact absurd fn (by decide)

/-- PIX changes one element, that of its cursor in the held buffer (R144). -/
theorem fbRead_pix_other {s t : State} {h h' : Handle} {idx : ElemIdx} (hb : s.heldBuffer = some h)
    (he : exec .pix s = .next t) (hne : h' ≠ h ∨ idx ≠ addr s.cfg s.cx s.cy) :
    t.fbRead h' idx = s.fbRead h' idx := by
  obtain ⟨k, held, -, rfl⟩ := exec_pix_next he
  obtain rfl : h = k := Option.some.inj (hb.symm.trans held)
  rw [State.fbRead_advanceCursor, State.fbRead_fbWrite_other _ _ hne]

/-- ACQ refuses a buffer that is too short (R57; log 20). -/
theorem exec_acq_short {s : State} {h : Handle} (ans : s.input.alloc = some (.short h)) :
    exec .acq s = .refused (.shortBuffer h) := by
  simp only [exec, execAcq, ans]

/-- Settles O16: every store goes to a visible pixel, whose index is below STRIDE·VRES. -/
theorem pixIndexLiesInTheBuffer : Obligations.PixIndexLiesInTheBuffer := by
  refine ⟨fun i s t h idx v he ht => ?_, fun s t h h' idx hb he hout => ?_,
    fun _ _ => exec_acq_short⟩
  · obtain ⟨held, visible, rfl⟩ := (exec_next he).of_fbWrite ht
    exact ⟨held, addr_le_lastVisible visible, lastVisible_lt_bufferSize s.cfg⟩
  · refine fbRead_pix_other hb he (hout.imp_right ?_)
    obtain ⟨-, -, visible, -⟩ := exec_pix_next he
    rintro hsize rfl
    exact hsize.not_gt (addr_lt_bufferSize visible)

end Sys2Proof.Machine

/-! The values 6 and 7 of SEQ (R84): refused where their operation would run, written by none; and O3. -/

namespace Sys2Proof.Machine

/-- At a quiet boundary the step runs the operation SEQ selects (R30). -/
theorem State.Quiet.step_eq {s : State} (hq : s.Quiet) :
    step s = closeStep (exec (decodeSeq s.seq) s.applyEnvStores) := by
  obtain ⟨running, noBreach, noHost, noCall⟩ := hq
  simp [step, running, noBreach, noHost, fetched_of_seq noCall]

/-- The operation of a reserved SEQ value is refused with that value (R84). -/
theorem exec_decodeSeq_reserved {q : BitVec 3} (hq : 6 ≤ q.toNat) (s : State) :
    exec (decodeSeq q) s = .refused (.reservedSeq q.toNat) := by
  have : ∀ q : BitVec 3, 6 ≤ q.toNat → q = 6 ∨ q = 7 := by decide
  obtain rfl | rfl := this q hq
  · rfl
  · rfl

/-- PIX's advance of the cursor keeps SEQ, or leaves PIX for SUB at the end of the frame (R144). -/
theorem State.advanceCursor_seq_cases (s : State) :
    s.advanceCursor.seq = s.seq ∨ s.advanceCursor.seq = seqSub := by
  obtain ⟨-, e⟩ | ⟨-, -, e⟩ | ⟨-, -, e⟩ := s.advanceCursor_cases <;> simp [e]

/-- An operation keeps SEQ or writes an assigned value to it (R84, R149). -/
theorem ExecNext.seq_eq_or_le {i : Instr} {s t : State} (he : ExecNext s i t) :
    t.seq = s.seq ∨ t.seq.toNat ≤ 5 := by
  cases he with
  | stays | called => exact .inl rfl
  | stored held hx hy =>
    obtain kept | toSub := State.advanceCursor_seq_cases (s.fbWrite _ (addr s.cfg s.cx s.cy) _)
    · exact .inl (kept.trans (State.fbWrite_seq ..))
    · exact .inr (by rw [toSub]; decide)
  | acquired | failed | submitted | advanced | waited =>
    exact .inr (by simp [seqPix, seqHalt, seqAdv, seqWait, seqAcq])

/-- Every function number decodes to an assigned operation (R83, R84). -/
theorem decodeFn_wellFormed : ∀ n : BitVec 3, (decodeFn n).WellFormed = true := by decide

/-- Settles O3: a quiet step runs what SEQ selects, and what 6 and 7 select is refused. -/
theorem reservedSeqIsRefused : Obligations.ReservedSeqIsRefused := by
  refine ⟨fun s => ⟨exec_decodeSeq_reserved (q := 6) (by decide) s,
      exec_decodeSeq_reserved (q := 7) (by decide) s⟩,
    fun s quiet reserved => ?_, fun i s t he reserved => ?_, decodeFn_wellFormed⟩
  · rw [quiet.step_eq, exec_decodeSeq_reserved reserved]
    rfl
  · exact (exec_next he).seq_eq_or_le.resolve_right (by omega)

end Sys2Proof.Machine

/-! SINE (R100, R103): its index is the argument modulo 256, the laws of a legal table carry over from the two halves of R101, and those of the default table are read off R102; O22 and O30. -/

namespace Sys2Proof.Machine

/-- The index of the sine ROM is the non-negative remainder modulo 256 (R100). -/
theorem sineIndex_val (p : Int) : ((sineIndex p).val : Int) = p % 256 := by
  simp only [sineIndex, maskLow]
  omega

/-- The remainder modulo 256 determines the index. -/
theorem sineIndex_eq_iff {p : Int} {i : Fin 256} : sineIndex p = i ↔ p % 256 = i.val := by
  rw [← sineIndex_val, Fin.ext_iff, Int.natCast_inj]

/-- An argument below 256 is its own index. -/
theorem sineIndex_natCast {n : Nat} (hn : n < 256) : sineIndex n = ⟨n, hn⟩ :=
  sineIndex_eq_iff.2 (Int.emod_eq_of_lt n.cast_nonneg (Int.ofNat_lt.2 hn))

/-- The index wraps around where its argument does not. -/
theorem sineIndex_add (p q : Int) : sineIndex (p + q) = sineIndex p + sineIndex q := by
  rw [sineIndex_eq_iff, Fin.val_add, Int.natCast_emod, Int.natCast_add, sineIndex_val,
    sineIndex_val, Nat.cast_ofNat, Int.add_emod]

/-- SINE read as an integer is an entry of the table (R88, R100). -/
theorem sine_toInt (c : Config) (p : Int) :
    (sine c p).toInt = c.straps.sineEntry (sineIndex p) := rfl

/-- (L1) SINE has period 256. -/
theorem sine_add_period (c : Config) (p k : Int) : sine c (p + 256 * k) = sine c p := by
  have wraps : sineIndex (p + 256 * k) = sineIndex p := by
    rw [sineIndex_eq_iff, sineIndex_val, Int.add_mul_emod_self_left]
  rw [sine, sine, wraps]

/-- (T6) of R101 with the index as a sum. -/
theorem sineEntry_add_half_of_lt (c : Config) {i : Fin 256} (hi : i.val < 128) :
    c.straps.sineEntry (i + 128) = -c.straps.sineEntry i := by
  have shifted : i + 128 = ⟨i.val + 128, by omega⟩ := by
    rw [Fin.ext_iff, Fin.val_add]
    exact Nat.mod_eq_of_lt (Nat.add_lt_add_right hi 128)
  rw [shifted]
  exact c.legal.antisymmetric ⟨i.val, hi⟩

/-- Half a period on from the second half of the table is the first. -/
theorem val_add_half_lt {i : Fin 256} (hi : 128 ≤ i.val) : (i + 128).val < 128 := by
  rw [Fin.val_add]
  omega

/-- (T6) for every entry: half a period on, around the end of the table too, it is negated. -/
theorem sineEntry_add_half (c : Config) (i : Fin 256) :
    c.straps.sineEntry (i + 128) = -c.straps.sineEntry i := by
  obtain hi | hi := Nat.lt_or_ge i.val 128
  · exact sineEntry_add_half_of_lt c hi
  · have around : i + 128 + 128 = i := by rw [add_assoc]; exact add_zero i
    have back := sineEntry_add_half_of_lt c (val_add_half_lt hi)
    rw [around] at back
    rw [back, neg_neg]

/-- (L2) SINE is antisymmetric about 128. -/
theorem sine_antiperiodic (c : Config) :
    Function.Antiperiodic (fun p => (sine c p).toInt) 128 := fun p => by
  simp only [sine_toInt, sineIndex_add]
  exact sineEntry_add_half c (sineIndex p)

/-- The truncated values of R106 away from the anchors lie in [0, 126]. -/
theorem sineTrunc_bounds : ∀ i : Fin 128, i.val ≠ 0 → i.val ≠ 64 →
    0 ≤ sineTrunc.getD i.val 0 ∧ sineTrunc.getD i.val 0 ≤ 126 := by decide

/-- The first half of a legal table lies in [0, 127] (R101). -/
theorem sineEntry_lower_bounds (c : Config) (i : Fin 256) (hi : i.val < 128) :
    0 ≤ c.straps.sineEntry i ∧ c.straps.sineEntry i ≤ 127 := by
  obtain ⟨at0, at64, -, -⟩ := c.legal.anchors
  by_cases h0 : i = 0
  · rw [h0, at0]
    decide
  by_cases h64 : i = 64
  · rw [h64, at64]
    decide
  rw [Fin.ext_iff] at h0 h64
  have trunc := sineTrunc_bounds ⟨i.val, hi⟩ h0 h64
  have near := c.legal.approx ⟨i.val, hi⟩ h0 h64
  dsimp only [Fin.eta] at trunc near
  omega

/-- Every entry of a legal table lies in [−127, 127]. -/
theorem sineEntry_bounds (c : Config) (i : Fin 256) :
    -127 ≤ c.straps.sineEntry i ∧ c.straps.sineEntry i ≤ 127 := by
  obtain hi | hi := Nat.lt_or_ge i.val 128
  · have lower := sineEntry_lower_bounds c i hi
    omega
  · have lower := sineEntry_lower_bounds c (i + 128) (val_add_half_lt hi)
    rw [sineEntry_add_half] at lower
    omega

/-- Over two half-periods on end an antiperiodic function sums to 0. -/
theorem sum_period_eq_zero {f : Int → Int} {n : Nat} (hf : Function.Antiperiodic f n) (p : Int) :
    ((List.range (n + n)).map fun k : Nat => f (p + k)).sum = 0 := by
  have second : ∀ k : Nat, f (p + (n + k)) = -f (p + k) := fun k => by
    rw [← hf, add_assoc, add_comm (k : Int)]
  have negated : ((List.range n).map fun k : Nat => -f (p + k)).sum =
      -((List.range n).map fun k : Nat => f (p + k)).sum := by
    rw [List.sum_neg, List.map_map, Function.comp_def]
  simp [List.range_add, Function.comp_def, second, negated]

/-- SINE of an argument below 256, for the default table. -/
theorem sine_default {c : Config} (ht : c.straps.sineTable = sineDefault) {n : Nat} (hn : n < 256) :
    sine c n = sineDefault.get ⟨n, hn⟩ := by
  rw [sine, ht, sineIndex_natCast hn]

/-- (L6) for R102's rows. -/
theorem sineDefault_mirror : ∀ j : Fin 65,
    sineDefault.get ⟨64 - j.val, by omega⟩ = sineDefault.get ⟨64 + j.val, by omega⟩ := by
  decide

/-- (L7) for R102's rows. -/
theorem sineDefault_plateaus : ∀ i : Fin 256,
    ((sineDefault.get i).toInt = 127 ↔ 61 ≤ i.val ∧ i.val ≤ 67) ∧
      ((sineDefault.get i).toInt = -127 ↔ 189 ≤ i.val ∧ i.val ≤ 195) := by
  decide +kernel

/-- (L8) for R102's rows. -/
theorem sineDefault_rises : ∀ i : Fin 64,
    (sineDefault.get ⟨i.val, by omega⟩).toInt ≤ (sineDefault.get ⟨i.val + 1, by omega⟩).toInt := by
  decide

/-- Settles O22: the index is the only index with that remainder. -/
theorem sineReturnsTheEntry : Obligations.SineReturnsTheEntry :=
  ⟨rfl, fun c p i hi => by rw [sine, sineIndex_eq_iff.2 hi.symm]⟩

/-- Settles O30: (L5) is (L2) summed, (L4) is (T7) on the first half and (T6) on the second. -/
theorem sineLaws : Obligations.SineLaws := by
  refine ⟨sine_add_period, sine_antiperiodic, fun c => c.legal.anchors,
    fun c p => sineEntry_bounds c (sineIndex p),
    fun c => sum_period_eq_zero (n := 128) (sine_antiperiodic c),
    fun c ht => ⟨fun j hj => ?_, fun i hi => ?_, fun i hi => ?_, fun i hi => ?_⟩⟩
  · have below := sine_default ht (n := 64 - j) (by omega)
    have above := sine_default ht (n := 64 + j) (by omega)
    push_cast [hj] at below above
    rw [below, above]
    exact sineDefault_mirror ⟨j, by omega⟩
  · rw [sine_default ht hi]
    exact (sineDefault_plateaus ⟨i, hi⟩).1
  · rw [sine_default ht hi]
    exact (sineDefault_plateaus ⟨i, hi⟩).2
  · have next := sine_default ht (n := i + 1) (by omega)
    push_cast at next
    rw [sine_default ht (by omega), next]
    exact sineDefault_rises ⟨i, hi⟩

end Sys2Proof.Machine

/-! ARG (R111): its value at every width, the sine index it selects; and O23. -/

namespace Sys2Proof.Machine

/-- At every width ARG is the sum modulo 2^w, divided by 16 and floored (R111). -/
theorem argAt_toNat (w : Nat) (phase : BitVec w) (coord : Coord) (scale : BitVec w) :
    (argAt w phase coord scale).toNat =
      (phase.toNat + coord.toNat * scale.toNat) % 2 ^ w / 16 := by
  simp [argAt, argShift, widenCoord, Nat.shiftRight_eq_div_pow]

/-- From width 12 on, no wrap reaches the sine index: it is bits 11:4 of the exact sum (R111). -/
theorem sineIndex_argAt_val {w : Nat} (hw : 12 ≤ w) (phase : BitVec w) (coord : Coord)
    (scale : BitVec w) : (sineIndex (argAt w phase coord scale).toNat).val =
      (phase.toNat + coord.toNat * scale.toNat) % 4096 / 16 := by
  have wraps : 16 * 256 ∣ 2 ^ w := Nat.pow_dvd_pow 2 hw
  zify
  rw [sineIndex_val, argAt_toNat]
  norm_cast
  rw [← Nat.mod_mul_right_div_self, Nat.mod_mod_of_dvd _ wraps]

/-- Settles O23: at width 32, bits 11:4 of the sum are the index. -/
theorem argReturnsTheSineArgument : Obligations.ArgReturnsTheSineArgument := by
  refine ⟨rfl, argAt_toNat 32, fun c phase scale coord i hi => ?_⟩
  have index : sineIndex (arg phase coord scale).toNat = i :=
    Fin.ext ((sineIndex_argAt_val (by decide) phase coord scale).trans hi.symm)
  rw [sine, index]

end Sys2Proof.Machine

/-! CHAN (R112, R113): its multiplier is exact, the product of two sine values is bounded, and the masks of PACK565 keep bit slices of it; O31 and O24. -/

namespace Sys2Proof.Machine

/-- The multiplier is exact: two signed 8-bit factors have a product within ±2^14 (R112). -/
theorem sineProduct_toInt (a b : BitVec 8) : (sineProduct a b).toInt = a.toInt * b.toInt := by
  have lower : -2 ^ 14 ≤ a.toInt * b.toInt := BitVec.le_toInt_mul_toInt
  have upper : a.toInt * b.toInt ≤ 2 ^ 14 := BitVec.toInt_mul_toInt_le
  have widened (v : BitVec 8) : (widenSine v).toInt = v.toInt :=
    BitVec.toInt_signExtend_of_le (by decide)
  rw [sineProduct, BitVec.toInt_mul, widened, widened, Int.bmod_eq_of_le (by omega) (by omega)]

/-- The product of two sine values lies in [−127², 127²] (R112). -/
theorem sine_mul_sine_bounds (c : Config) (p q : Int) :
    -16129 ≤ (sine c p).toInt * (sine c q).toInt ∧ (sine c p).toInt * (sine c q).toInt ≤ 16129 := by
  have entry (p : Int) : |(sine c p).toInt| ≤ 127 := abs_le.2 (sineEntry_bounds c (sineIndex p))
  rw [← abs_le, abs_mul]
  exact mul_le_mul (entry p) (entry q) (abs_nonneg _) (by decide)

/-- Settles O31: the exact product, which for two table entries is that of two values within ±127. -/
theorem sineProductIsExact : Obligations.SineProductIsExact := by
  refine ⟨sineProduct_toInt, fun c p q => ?_⟩
  rw [sineProduct_toInt]
  exact sine_mul_sine_bounds c p q

section
variable (w : Nat) (c : Config) (phase : BitVec w) (x y : Coord) (scale : BitVec w)

/-- CHAN is the floor of the exact product over 128 (R113). -/
theorem chanAt_eq_fdiv : chanAt w c phase x y scale =
    Int.fdiv ((sine c (argAt w phase x scale).toNat).toInt *
      (sine c (argAt w phase y scale).toNat).toInt) 128 := by
  rw [chanAt, sineProduct_toInt]
  rfl

/-- CHAN is symmetric in its coordinates (R113). -/
theorem chanAt_comm : chanAt w c phase x y scale = chanAt w c phase y x scale := by
  rw [chanAt_eq_fdiv, chanAt_eq_fdiv, mul_comm]

/-- The range of CHAN: ±16129 over 128, floored (R113). -/
theorem chanAt_bounds : -127 ≤ chanAt w c phase x y scale ∧ chanAt w c phase x y scale ≤ 126 := by
  have product := sine_mul_sine_bounds c (argAt w phase x scale).toNat (argAt w phase y scale).toNat
  rw [chanAt_eq_fdiv, Int.fdiv_eq_ediv_of_nonneg _ (by decide)]
  omega

end

/-- A mask of k bits is truncation to k bits, for every integer (R10). -/
theorem maskLow_eq_toNat_ofInt (a : Int) (k : Nat) : maskLow a k = (BitVec.ofInt k a).toNat := by
  simp [maskLow, BitVec.toNat_ofInt]

/-- Shifting a signed word right on integers is shifting its bits (R10). -/
theorem asr_toInt {w : Nat} (p : BitVec w) (n : Nat) : asr p.toInt n = (p.sshiftRight n).toInt := by
  rw [asr, BitVec.toInt_sshiftRight, Int.shiftRight_eq_div_pow,
    Int.fdiv_eq_ediv_of_nonneg _ (by positivity)]
  norm_cast

/-- Shift by n, then mask to k bits: the bits n+k−1 down to n, where the word has them all. -/
theorem maskLow_asr_toInt {w n k : Nat} (h : n + k ≤ w) (p : BitVec w) :
    maskLow (asr p.toInt n) k = (p.extractLsb' n k).toNat := by
  have slice : (p.sshiftRight n).signExtend k = p.extractLsb' n k := by
    ext i hi
    have inside : n + i < w := by omega
    have below : i < w := by omega
    simp [BitVec.getElem_signExtend, BitVec.getElem_sshiftRight, inside, below]
  rw [maskLow_eq_toNat_ofInt, asr_toInt, ← slice, BitVec.signExtend]

/-- Settles O24: the facts about CHAN at width 32, and its slices at the masks' widths. -/
theorem chanReturnsTheScaledProduct : Obligations.ChanReturnsTheScaledProduct := by
  refine ⟨rfl, fun c phase x y scale => ?_, fun p =>
    ⟨maskLow_asr_toInt (by decide) p, maskLow_asr_toInt (by decide) p⟩⟩
  obtain ⟨lower, upper⟩ := chanAt_bounds 32 c phase x y scale
  exact ⟨chanAt_eq_fdiv 32 c phase x y scale, lower, upper, chanAt_comm 32 c phase x y scale⟩

end Sys2Proof.Machine

/-! PACK565 and PLASMA (R114, R115): the masked fields do not overlap, so that packing them adds them up; a channel at phase 0 is 0 on the first row and column; O25 and O26. -/

namespace Sys2Proof.Machine

/-- A mask of k bits leaves a k-bit number (R10). -/
theorem maskLow_lt (a : Int) (k : Nat) : maskLow a k < 2 ^ k := by
  rw [maskLow_eq_toNat_ofInt]
  exact BitVec.isLt _

/-- The three fields of a packed pixel do not overlap (R114). -/
theorem pack565_toNat (r g b : Int) :
    (pack565 r g b).toNat = maskLow r 5 * 2048 + maskLow g 6 * 32 + maskLow b 5 := by
  have red := maskLow_lt r 5
  have green := maskLow_lt g 6
  have blue := maskLow_lt b 5
  have low : maskLow g 6 <<< 5 ||| maskLow b 5 = maskLow g 6 * 32 + maskLow b 5 := by
    rw [← Nat.shiftLeft_add_eq_or_of_lt blue, Nat.shiftLeft_eq]
  rw [pack565, BitVec.toNat_ofNat, Nat.or_assoc, low, ← Nat.shiftLeft_add_eq_or_of_lt (by omega),
    Nat.shiftLeft_eq, Nat.mod_eq_of_lt (by omega), ← Nat.add_assoc]

/-- Settles O25: each field is a quotient and remainder of the sum of the three. -/
theorem packMasksThenShifts : Obligations.PackMasksThenShifts := by
  refine ⟨rfl, fun r g b => ?_⟩
  have red := maskLow_lt r 5
  have green := maskLow_lt g 6
  have blue := maskLow_lt b 5
  refine ⟨?_, ?_, ?_, ?_⟩
  · rw [pack565_toNat]
    simp only [maskLow]
    omega
  all_goals
    rw [← BitVec.toNat_inj, BitVec.extractLsb'_toNat, ← maskLow_eq_toNat_ofInt, pack565_toNat,
      Nat.shiftRight_eq_div_pow]
    omega

/-- At phase 0 a coordinate of 0 has argument 0, whose sine is 0 (R115, R101 (T2)). -/
theorem chan_zero_left (c : Config) (y : Coord) (scale : Word) : chan c 0 0 y scale = 0 := by
  have argument : (argAt 32 0 0 scale).toNat = 0 := by simp [argAt_toNat]
  have sine_zero : (sine c 0).toInt = 0 := c.legal.anchors.1
  rw [chan, chanAt_eq_fdiv, argument, Nat.cast_zero, sine_zero, zero_mul, Int.zero_fdiv]

/-- PLASMA packs three channels with the straps as scales (R115). -/
theorem plasma_eq_pack565 (c : Config) (x y : Coord) (rstart gstart bstart : Word) :
    plasma c x y rstart gstart bstart = pack565 (chan c rstart x y c.straps.rscale)
      (chan c gstart x y c.straps.gscale) (chan c bstart x y c.straps.bscale) := rfl

/-- Settles O26: on the first row and column all three channels are 0 at phase 0. -/
theorem plasmaPacksThreeChannels : Obligations.PlasmaPacksThreeChannels := by
  refine ⟨rfl, plasma_eq_pack565, fun c x y edge => ?_⟩
  have dark (scale : Word) : chan c 0 x y scale = 0 := by
    obtain rfl | rfl := edge
    · exact chan_zero_left c y scale
    · exact (chanAt_comm 32 c 0 x 0 scale).trans (chan_zero_left c x scale)
  rw [plasma_eq_pack565, dark, dark, dark]
  rfl

end Sys2Proof.Machine

/-! SOLID (R130): its index is the counter modulo 8; O27. -/

namespace Sys2Proof.Machine

/-- The remainder of the counter modulo 8 determines the index of the palette ROM (R130). -/
theorem paletteIndex_eq_iff {counter : Word} {i : Fin 8} :
    paletteIndex counter = i ↔ counter.toNat % 8 = i.val := Fin.ext_iff

/-- Settles O27: the index is the only index with that remainder. -/
theorem solidReturnsThePaletteEntry : Obligations.SolidReturnsThePaletteEntry :=
  ⟨rfl, fun c counter i hi => by rw [solid, paletteIndex_eq_iff.2 hi.symm]⟩

end Sys2Proof.Machine

/-! ADDR and GEN (R141, R142): on the visible rectangle the column and the row are the remainder and the quotient of an index by STRIDE; O28 and O29. -/

namespace Sys2Proof.Machine

/-- The column of a visible pixel is its index modulo STRIDE (R142): HRES ≤ STRIDE. -/
theorem addr_mod_stride {c : Config} {x y : Coord} (hv : Visible c x y) :
    (addr c x y).toNat % c.straps.stride = x.toNat := by
  rw [addr_toNat, Nat.mul_add_mod', Nat.mod_eq_of_lt (hv.1.trans_le c.legal.stride.1)]

/-- The row of a visible pixel is its index divided by STRIDE (R142). -/
theorem addr_div_stride {c : Config} {x y : Coord} (hv : Visible c x y) :
    (addr c x y).toNat / c.straps.stride = y.toNat := by
  have hx : x.toNat < c.straps.stride := hv.1.trans_le c.legal.stride.1
  rw [addr_toNat, Nat.add_comm, Nat.add_mul_div_right _ _ (by omega), Nat.div_eq_of_lt hx,
    Nat.zero_add]

/-- Settles O28: the index gives both coordinates back. -/
theorem addrReturnsTheIndex : Obligations.AddrReturnsTheIndex := by
  refine ⟨rfl, addr_toNat, fun c x y x' y' hv hv' same => ⟨?_, ?_⟩⟩
  · rw [← BitVec.toNat_inj, ← addr_mod_stride hv, same, addr_mod_stride hv']
  · rw [← BitVec.toNat_inj, ← addr_div_stride hv, same, addr_div_stride hv']

/-- GEN under PLASMA (R141). -/
theorem gen_of_plasma {s : State} (mode : s.cfg.straps.mode = .plasma) (x y : Coord) :
    gen s x y = plasma s.cfg x y s.rstart s.gstart s.bstart := by
  simp only [gen, mode]

/-- GEN under SOLID (R141): the coordinates are not read. -/
theorem gen_of_solid {s : State} (mode : s.cfg.straps.mode = .solid) (x y : Coord) :
    gen s x y = solid s.cfg s.counter := by
  simp only [gen, mode]

/-- Settles O29, one mode after the other. -/
theorem genReturnsTheActivePixel : Obligations.GenReturnsTheActivePixel :=
  ⟨rfl, fun _ x y => ⟨fun mode => gen_of_plasma mode x y, fun mode => gen_of_solid mode x y⟩⟩

end Sys2Proof.Machine

/-! The sequencer operations that complete (R144 to R147): the next state of each by name, and what it changes and keeps; O14, O18, O19 and O20. -/

namespace Sys2Proof.Machine

/-- SUB once Submit has completed (R145). -/
theorem exec_sub_submitted {s : State} {h : Handle} (held : s.heldBuffer = some h)
    (done : s.input.submitted = true) :
    exec .sub s = .next ((s.issue (.submit h)).releaseBuffer.setSeq seqAdv) := by
  simp only [exec, execSub, held, done, if_true]

/-- ADV is never held up (R146). -/
theorem exec_adv (s : State) :
    exec .adv s = .next ((s.advancePhases s.cfg.straps.mode).setSeq seqWait) := rfl

/-- WAIT once the wait has returned (R147). -/
theorem exec_wait_waited {s : State} (done : s.input.waited = true) :
    exec .wait s = .next ((s.issue (.wait s.cfg.straps.framePeriod)).setSeq seqAcq) := by
  simp only [exec, execWait, done, if_true]

/-- PIX with a held buffer and a visible cursor (R144). -/
theorem exec_pix_visible {s : State} {h : Handle} (held : s.heldBuffer = some h)
    (hv : Visible s.cfg s.cx s.cy) :
    exec .pix s = .next (s.fbWrite h (addr s.cfg s.cx s.cy) (gen s s.cx s.cy)).advanceCursor := by
  simp only [exec, execPix, held, State.cursorInFrame_iff.2 hv, if_true]

/-- Settles O18, one register after the other. -/
theorem subHandsTheBufferOver : Obligations.SubHandsTheBufferOver :=
  ⟨rfl, fun _ _ held done => ⟨_, exec_sub_submitted held done, rfl, rfl, rfl, rfl,
    ⟨rfl, rfl, rfl, rfl⟩, ⟨rfl, rfl⟩, ⟨rfl, rfl, rfl, rfl⟩, fun _ => rfl⟩⟩

/-- Settles O20, one register after the other. -/
theorem waitReturnsToAcq : Obligations.WaitReturnsToAcq :=
  ⟨rfl, fun _ done => ⟨_, exec_wait_waited done, rfl, rfl,
    ⟨rfl, rfl, rfl, rfl⟩, ⟨rfl, rfl⟩, ⟨rfl, rfl⟩, ⟨rfl, rfl, rfl, rfl⟩, fun _ => rfl⟩⟩

/-- Under PLASMA the three phases advance by 11, 7 and 5, and COUNTER stays (R25, R146). -/
theorem State.advancePhases_plasma (s : State) :
    (s.advancePhases .plasma).rstart.toNat = (s.rstart.toNat + 11) % 2 ^ 32 ∧
    (s.advancePhases .plasma).gstart.toNat = (s.gstart.toNat + 7) % 2 ^ 32 ∧
    (s.advancePhases .plasma).bstart.toNat = (s.bstart.toNat + 5) % 2 ^ 32 ∧
    (s.advancePhases .plasma).counter = s.counter :=
  ⟨BitVec.toNat_add _ rDelta, BitVec.toNat_add _ gDelta, BitVec.toNat_add _ bDelta, rfl⟩

/-- Under SOLID COUNTER advances by 1, and the three phases stay (R25, R146). -/
theorem State.advancePhases_solid (s : State) :
    (s.advancePhases .solid).counter.toNat = (s.counter.toNat + 1) % 2 ^ 32 ∧
    (s.advancePhases .solid).rstart = s.rstart ∧ (s.advancePhases .solid).gstart = s.gstart ∧
    (s.advancePhases .solid).bstart = s.bstart :=
  ⟨BitVec.toNat_add _ cDelta, rfl, rfl, rfl⟩

/-- Settles O19: the phases by mode, everything else by the frame of `advancePhases`. -/
theorem advAdvancesTheActivePhases : Obligations.AdvAdvancesTheActivePhases := by
  refine ⟨rfl, fun s => ⟨_, exec_adv s, rfl, fun mode => ?_, fun mode => ?_, ?_⟩⟩
  · rw [mode]
    exact s.advancePhases_plasma
  · rw [mode]
    exact s.advancePhases_solid
  · simp [SameCursor, SameBuffer, SameOutside, SameStorage]

/-- The cursor's advance in raster order (R144); neither coordinate wraps, since HRES and VRES are below
2^16 (R7). -/
theorem State.advanceCursor_raster (s : State) :
    if s.cx.toNat + 1 < s.cfg.straps.hres then
      s.advanceCursor.cx.toNat = s.cx.toNat + 1 ∧ s.advanceCursor.cy = s.cy ∧
        s.advanceCursor.seq = s.seq
    else if s.cy.toNat + 1 < s.cfg.straps.vres then
      s.advanceCursor.cx = 0 ∧ s.advanceCursor.cy.toNat = s.cy.toNat + 1 ∧
        s.advanceCursor.seq = s.seq
    else s.advanceCursor.cx = 0 ∧ s.advanceCursor.cy = 0 ∧ s.advanceCursor.seq = seqSub := by
  obtain ⟨hres_le, stride_le⟩ := s.cfg.legal.stride
  obtain ⟨-, vres_le⟩ := s.cfg.legal.vres
  obtain ⟨inRow, e⟩ | ⟨rowEnd, inFrame, e⟩ | ⟨rowEnd, frameEnd, e⟩ := s.advanceCursor_cases
  · rw [if_pos inRow, e]
    exact ⟨BitVec.toNat_add_of_lt (y := 1#16) (show s.cx.toNat + 1 < 2 ^ 16 by omega), rfl, rfl⟩
  · rw [if_neg rowEnd.not_gt, if_pos inFrame, e]
    exact ⟨rfl, BitVec.toNat_add_of_lt (y := 1#16) (show s.cy.toNat + 1 < 2 ^ 16 by omega), rfl⟩
  · rw [if_neg rowEnd.not_gt, if_neg frameEnd.not_gt, e]
    exact ⟨rfl, rfl, rfl⟩

/-- Settles O14: the storage by the law of the element stored, the cursor by that of its advance. -/
theorem pixGeneratesStoresAdvances : Obligations.PixGeneratesStoresAdvances := by
  refine ⟨rfl, fun s h held hx hy => ⟨_, exec_pix_visible held ⟨hx, hy⟩, ?_, ?_,
    fun a lower upper => ?_, ?_, ?_, ?_, (s.fbWrite h _ _).advanceCursor_raster⟩⟩
  · rw [State.advanceCursor_trace, State.fbWrite_trace]
  · rw [State.fbRead_advanceCursor, State.fbRead_fbWrite_self]
  · rw [State.advanceCursor_fb, State.fbWrite_fb, Memory.read_writeElem_other _ _ _ _ _ lower upper]
  · simp [SamePhases]
  · simp [SameBuffer]
  · simp [SameOutside]

end Sys2Proof.Machine

/-! The decoder against the encoder (R81 to R84; log 14): `encodeOp` and `decodeOp` are inverse to each other, and a byte holds an identifier exactly when its high four bits are 0; O1 and O2. -/

namespace Sys2Proof.Machine

/-- The identifier of an operation decodes to it (R82, R83). -/
theorem decodeOp_encodeOp (i : Instr) : decodeOp (encodeOp i) = i := by
  cases i <;> decide

/-- Every identifier is that of the operation it decodes to: the tables have no gap (R82, R83). -/
theorem encodeOp_decodeOp : ∀ op : BitVec 4, encodeOp (decodeOp op) = op := by decide

/-- The decoder and the encoder of identifiers are inverse to each other. -/
theorem decodeOp_eq_iff {op : BitVec 4} {i : Instr} : decodeOp op = i ↔ op = encodeOp i :=
  ⟨fun h => h ▸ (encodeOp_decodeOp op).symm, fun h => h ▸ decodeOp_encodeOp i⟩

/-- A byte is a zero-extended identifier exactly when its high bits are 0 and its low bits are the
identifier. -/
theorem eq_setWidth_iff (b : Byte) (op : BitVec 4) :
    b = op.setWidth 8 ↔ b.extractLsb' 4 4 = 0#4 ∧ b.extractLsb' 0 4 = op := by
  have hb := b.isLt
  have hop := op.isLt
  simp only [← BitVec.toNat_inj, BitVec.toNat_setWidth, BitVec.extractLsb'_toNat,
    Nat.shiftRight_eq_div_pow, BitVec.toNat_ofNat]
  omega

/-- The high four bits of a byte are 0 exactly when its value is below 16. -/
theorem high_eq_zero_iff (b : Byte) : b.extractLsb' 4 4 = 0#4 ↔ b.toNat < 16 := by
  have hb := b.isLt
  simp only [← BitVec.toNat_inj, BitVec.extractLsb'_toNat, Nat.shiftRight_eq_div_pow,
    BitVec.toNat_ofNat]
  omega

/-- The first byte decodes to the operation it encodes, and the rest is left. -/
theorem decode_cons_eq_ok_iff {b : Byte} {bs rest : List Byte} {i : Instr} :
    decode (b :: bs) = .ok (i, rest) ↔ b = encodeByte i ∧ bs = rest := by
  rw [encodeByte, eq_setWidth_iff, ← decodeOp_eq_iff, decode]
  split
  · next high => simp [high]
  · next high => simp [high]

/-- The first byte is refused exactly when it is 16 or more. -/
theorem decode_cons_eq_error_iff {b : Byte} {bs : List Byte} :
    (∃ e, decode (b :: bs) = .error e) ↔ 16 ≤ b.toNat := by
  rw [← Nat.not_lt, ← high_eq_zero_iff, decode]
  split
  · next high => simp [high]
  · next high => simp [high]

/-- Settles O1, for the empty list and for a first byte. -/
theorem decodeExactlyInvertsEncode : Obligations.DecodeExactlyInvertsEncode := by
  refine ⟨fun bs rest i => ?_, fun bs => ?_⟩
  · cases bs with
    | nil => simp [decode]
    | cons b bs => rw [decode_cons_eq_ok_iff, List.cons.injEq]
  · cases bs with
    | nil => simp [decode]
    | cons b bs =>
      rw [decode_cons_eq_error_iff]
      simp

/-- Settles O2: the eight words and the six values of SEQ, evaluated. -/
theorem tableWordsDecode : Obligations.TableWordsDecode := by
  unfold Obligations.TableWordsDecode
  decide

/-- The identifier a byte carries selects the operation that the decoder reads from the byte. -/
theorem fetched_of_decode {s : State} {i : Instr}
    (h : decode [s.fetchOp.setWidth 8] = .ok (i, [])) : s.fetched = i := by
  obtain ⟨same, -⟩ := decode_cons_eq_ok_iff.1 h
  have low := ((eq_setWidth_iff _ _).1 same).2
  rw [((eq_setWidth_iff (s.fetchOp.setWidth 8) s.fetchOp).1 rfl).2] at low
  exact decodeOp_eq_iff.2 low

end Sys2Proof.Machine

/-! What every operation keeps, read off `ExecNext` once: the configuration, the bench but for a direct call, the phases but for ADV; O43, O44 and O45. -/

namespace Sys2Proof.Machine

/-- The registers of the inactive generator are unchanged (R25 (d)). -/
def SameInactive (s t : State) : Prop :=
  (s.cfg.straps.mode = .plasma → t.counter = s.counter) ∧
  (s.cfg.straps.mode = .solid → t.rstart = s.rstart ∧ t.gstart = s.gstart ∧ t.bstart = s.bstart)

section
variable {i : Instr} {s t : State}

/-- No operation writes the configuration (R37, R192). -/
theorem ExecNext.cfg_eq (he : ExecNext s i t) : t.cfg = s.cfg := by
  cases he <;> simp

/-- No operation ends the run (R182). -/
theorem ExecNext.terminated_eq (he : ExecNext s i t) : t.terminated = s.terminated := by
  cases he <;> simp

/-- No operation asks for a direct call (log 13). -/
theorem ExecNext.request_eq_none (he : ExecNext s i t) (noCall : s.bench.request = none) :
    t.bench.request = none := by
  cases he <;> simp [noCall]

/-- No operation but ADV writes a phase register (R196). -/
theorem ExecNext.samePhases (he : ExecNext s i t) (notAdv : i ≠ .adv) : SamePhases s t := by
  cases he with
  | advanced => exact absurd rfl notAdv
  | _ => simp [SamePhases]

/-- No operation writes the registers of the inactive generator (R25). -/
theorem ExecNext.sameInactive (he : ExecNext s i t) : SameInactive s t := by
  cases he with
  | advanced => exact ⟨fun mode => by rw [mode]; rfl, fun mode => by rw [mode]; exact ⟨rfl, rfl, rfl⟩⟩
  | _ => simp [SameInactive]

/-- An operation issues at most one transaction (R152). -/
theorem ExecNext.trace_suffix (he : ExecNext s i t) : s.trace <:+ t.trace := by
  cases he <;> simp

end

/-- A step without RESET keeps what the operation it selects keeps: a relation that holds between states
with the same configuration and registers, and along that operation, holds along the step. -/
theorem step_next_rel {R : State → State → Prop} {s t : State} (hs : step s = .next t)
    (noReset : s.input.host ≠ some .reset) (frozen : R s s.applyEnvStores.advanceEnv)
    (ended : R s s.applyEnvStores.abandonBuffer.freeze.advanceEnv)
    (ran : ∀ u, ExecNext s.applyEnvStores s.fetched u → R s u.advanceEnv) : R s t := by
  obtain ⟨-, rfl⟩ | ⟨-, -, ⟨-, rfl⟩ | ⟨reset, -⟩ | ⟨-, u, he, rfl⟩⟩ := step_next hs
  · exact frozen
  · exact ended
  · exact absurd reset noReset
  · exact ran u he

/-- Settles O43: host actions, the environment's stores and every operation keep the configuration. -/
theorem configurationNeverChanges : Obligations.ConfigurationNeverChanges := by
  intro s t hs
  obtain ⟨-, rfl⟩ | ⟨-, -, ⟨-, rfl⟩ | ⟨-, rfl⟩ | ⟨-, u, he, rfl⟩⟩ := step_next hs
  · simp
  · simp
  · simp
  · exact he.cfg_eq

/-- Settles O44. -/
theorem onlyAdvWritesThePhases : Obligations.OnlyAdvWritesThePhases :=
  fun _ _ hs noReset notAdv => step_next_rel (R := SamePhases) hs noReset
    (by simp [SamePhases]) (by simp [SamePhases]) fun _ he => he.samePhases notAdv

/-- Settles O45. -/
theorem inactivePhasesNeverChange : Obligations.InactivePhasesNeverChange :=
  fun _ _ hs noReset => step_next_rel (R := SameInactive) hs noReset
    (by simp [SameInactive]) (by simp [SameInactive])
    fun _ he => he.sameInactive

end Sys2Proof.Machine

/-! The invariants of R45 along a step (R45, R59, R61): what the environment and the host actions keep, then one lemma per invariant over `ExecNext`; O40, O41, O42 and the base case O39. -/

namespace Sys2Proof.Machine

/-! ### I1 to I4 -/

/-- Outside PIX and SUB no buffer is held, and outside PIX the cursor is (0, 0) (R45 I2, I4). -/
theorem State.Inv.idle {s : State} (inv : s.Inv) (notPix : s.seq ≠ seqPix) (notSub : s.seq ≠ seqSub) :
    s.bufv = false ∧ s.buf = none ∧ s.cx = 0 ∧ s.cy = 0 := by
  have notHeld : ¬s.bufv = true := by simp [inv.bufvIff, notPix, notSub]
  refine ⟨by simpa using notHeld, ?_, inv.cursorZero notPix⟩
  simpa [Option.isSome_iff_ne_none] using mt inv.bufIff.1 notHeld

/-- In PIX and in SUB a buffer is held (R45 I2). -/
theorem State.Inv.held {s : State} (inv : s.Inv) (busy : s.seq = seqPix ∨ s.seq = seqSub) :
    ∃ h, s.heldBuffer = some h := by
  have valid := inv.bufvIff.2 busy
  obtain ⟨h, hh⟩ := Option.isSome_iff_exists.1 (inv.bufIff.2 valid)
  exact ⟨h, State.heldBuffer_eq_some.2 ⟨valid, hh⟩⟩

/-- The invariant speaks of the registers and the storage only, not of the environment, the bench, the trace
or the end of the run. -/
theorem State.Inv.of_same {s t : State} (inv : s.Inv) (cfg : t.cfg = s.cfg) (seq : t.seq = s.seq)
    (cursor : SameCursor s t) (buffer : SameBuffer s t) (wf : Memory.wf t.fb) : t.Inv := by
  obtain ⟨hx, hy⟩ := cursor
  obtain ⟨hb, hv⟩ := buffer
  obtain ⟨legal, bufv, buf, inside, zero, -⟩ := inv
  constructor <;> simpa only [cfg, seq, hx, hy, hb, hv]

/-- The invariant where the sequencer is neither in PIX nor in SUB: nothing is held, the cursor is (0, 0). -/
theorem State.Inv.of_idle {t : State} {q : BitVec 3} (seq : t.seq = q)
    (idle : q.toNat ≤ 5 ∧ q ≠ seqPix ∧ q ≠ seqSub) (bufv : t.bufv = false) (buf : t.buf = none)
    (cursor : t.cx = 0 ∧ t.cy = 0) (wf : Memory.wf t.fb) : t.Inv := by
  obtain ⟨legal, notPix, notSub⟩ := idle
  exact ⟨by rwa [seq], by simp [bufv, seq, notPix, notSub], by simp [bufv, buf],
    fun h => absurd (seq.symm.trans h) notPix, fun _ => cursor, wf⟩

/-- The invariant in PIX: a buffer is held, the cursor is visible. -/
theorem State.Inv.of_pix {t : State} (seq : t.seq = seqPix) (bufv : t.bufv = true)
    (buf : t.buf.isSome = true) (cursor : Visible t.cfg t.cx t.cy) (wf : Memory.wf t.fb) : t.Inv :=
  ⟨by rw [seq]; decide, by simp [bufv, seq], by simp [bufv, buf], fun _ => cursor,
    fun h => absurd seq h, wf⟩

/-- The invariant in SUB: a buffer is held, the cursor is (0, 0). -/
theorem State.Inv.of_sub {t : State} (seq : t.seq = seqSub) (bufv : t.bufv = true)
    (buf : t.buf.isSome = true) (cursor : t.cx = 0 ∧ t.cy = 0) (wf : Memory.wf t.fb) : t.Inv :=
  ⟨by rw [seq]; decide, by simp [bufv, seq], by simp [bufv, buf],
    fun h => absurd (seq.symm.trans h) (by decide), fun _ => cursor, wf⟩

/-- The environment's own stores keep the invariant. -/
theorem State.Inv.applyEnvStores {s : State} (inv : s.Inv) : s.applyEnvStores.Inv :=
  inv.of_same rfl rfl ⟨rfl, rfl⟩ ⟨rfl, rfl⟩ (Memory.wf_applyStores inv.fbWf _ _)

/-- The environment's move to its next boundary keeps the invariant. -/
theorem State.Inv.advanceEnv {s : State} (inv : s.Inv) : s.advanceEnv.Inv :=
  inv.of_same rfl rfl ⟨rfl, rfl⟩ ⟨rfl, rfl⟩ inv.fbWf

/-- PIX's advance of the cursor keeps the invariant: a visible cursor moves to a visible one, or to (0, 0)
with SEQ = SUB (R144). -/
theorem State.Inv.advanceCursor {s : State} (inv : s.Inv) (pix : s.seq = seqPix) :
    s.advanceCursor.Inv := by
  have bufv : s.advanceCursor.bufv = true := by simpa using inv.bufvIff.2 (.inl pix)
  have buf : s.advanceCursor.buf.isSome = true := by simpa using inv.bufIff.2 (by simpa using bufv)
  have wf : Memory.wf s.advanceCursor.fb := by simpa using inv.fbWf
  obtain ⟨-, visibleRow⟩ := inv.cursorIn pix
  have raster := s.advanceCursor_raster
  split_ifs at raster with inRow inFrame <;> obtain ⟨cx, cy, seq⟩ := raster
  · exact .of_pix (seq.trans pix) bufv buf (by simp [Visible, cx, cy, inRow, visibleRow]) wf
  · exact .of_pix (seq.trans pix) bufv buf
      (by simpa [Visible, cx, cy, inFrame] using Nat.lt_of_succ_le s.cfg.legal.hres) wf
  · exact .of_sub seq bufv buf ⟨cx, cy⟩ wf

/-- The operation a step selects keeps the invariant (R45 I1 to I4). -/
theorem State.Inv.execNext {s t : State} {i : Instr} (inv : s.Inv) (sel : s.fetched = i)
    (he : ExecNext s i t) : t.Inv := by
  obtain ⟨acq, pix, sub, adv, wait, -⟩ := fetched_seq (s := s)
  cases he with
  | stays => exact inv
  | called => exact inv.of_same rfl rfl ⟨rfl, rfl⟩ ⟨rfl, rfl⟩ inv.fbWf
  | acquired =>
    have legal := s.cfg.legal
    exact .of_pix rfl rfl rfl ⟨legal.hres, legal.vres.1⟩
      (Memory.wf_fill (Memory.wf_forget inv.fbWf _) _ _ _ _)
  | failed =>
    obtain ⟨bufv, buf, cursor⟩ := inv.idle (by rw [acq sel]; decide) (by rw [acq sel]; decide)
    exact .of_idle (q := seqHalt) rfl (by decide) bufv buf cursor inv.fbWf
  | stored =>
    exact State.Inv.advanceCursor
      (inv.of_same rfl rfl ⟨rfl, rfl⟩ ⟨rfl, rfl⟩ (Memory.wf_writeElem inv.fbWf _ _ _ _)) (pix sel)
  | submitted =>
    exact .of_idle (q := seqAdv) rfl (by decide) rfl rfl
      (inv.cursorZero (by rw [sub sel]; decide)) inv.fbWf
  | advanced =>
    obtain ⟨bufv, buf, cursor⟩ := inv.idle (by rw [adv sel]; decide) (by rw [adv sel]; decide)
    exact .of_idle (q := seqWait) rfl (by decide) (by simpa) (by simpa) (by simpa)
      (by simpa using inv.fbWf)
  | waited =>
    obtain ⟨bufv, buf, cursor⟩ := inv.idle (by rw [wait sel]; decide) (by rw [wait sel]; decide)
    exact .of_idle (q := seqAcq) rfl (by decide) bufv buf cursor inv.fbWf

/-- Settles O40, for each way in which a step answers a next state. -/
theorem stepKeepsTheInvariant : Obligations.StepKeepsTheInvariant := by
  intro s t inv hs
  have stored := inv.applyEnvStores
  have abandoned := State.wf_abandonBuffer stored.fbWf
  obtain ⟨-, rfl⟩ | ⟨-, -, ⟨-, rfl⟩ | ⟨-, rfl⟩ | ⟨-, u, he, rfl⟩⟩ := step_next hs
  · exact stored.advanceEnv
  · exact stored.of_same (by simp) (by simp) (by simp [SameCursor]) (by simp [SameBuffer]) abandoned
  · exact .of_idle (q := seqAcq) rfl (by decide) rfl rfl ⟨rfl, rfl⟩ abandoned
  · exact (stored.execNext rfl he).advanceEnv

/-! ### The content of the frame -/

/-- The frame in progress has the pixel (x, y) stored: in PIX the cursor has passed it, in SUB every pixel is
stored (R45 I6, R61). -/
def State.Passed (s : State) (x y : Coord) : Prop := s.seq = seqPix → before x y s.cx s.cy

/-- The two clauses of the invariant on the content as one. -/
theorem State.frameFilled_iff {s : State} : s.FrameFilled ↔
    ∀ h x y, s.terminated = false → s.seq = seqPix ∨ s.seq = seqSub → s.heldBuffer = some h →
      Visible s.cfg x y → s.Passed x y → s.fbRead h (addr s.cfg x y) = some (gen s x y) := by
  constructor
  · rintro ⟨partly, whole⟩ h x y running (pix | sub) held hv passed
    · exact partly h x y running pix held hv (passed pix)
    · exact whole h x y running sub held hv
  · intro all
    refine ⟨fun h x y running pix held hv earlier => all h x y running (.inl pix) held hv fun _ => earlier,
      fun h x y running sub held hv => all h x y running (.inr sub) held hv fun pix => ?_⟩
    exact absurd (pix.symm.trans sub) (by decide)

/-- Outside PIX and SUB nothing is said of the content. -/
theorem State.FrameFilled.of_idle {t : State} {q : BitVec 3} (seq : t.seq = q)
    (idle : ¬(q = seqPix ∨ q = seqSub)) : t.FrameFilled :=
  State.frameFilled_iff.2 fun _ _ _ _ busy => absurd (seq ▸ busy) idle

/-- After TERMINATE nothing is said of the content (M6). -/
theorem State.FrameFilled.of_terminated {t : State} (ended : t.terminated = true) : t.FrameFilled :=
  State.frameFilled_iff.2 fun _ _ _ running => by simp [ended] at running

/-- The content stays where neither the sequencer, nor the phases, nor an element of the held buffer
changes. -/
theorem State.FrameFilled.of_same {s t : State} (filled : s.FrameFilled) (cfg : t.cfg = s.cfg)
    (phases : SamePhases s t) (seq : t.seq = s.seq) (cursor : SameCursor s t) (buffer : SameBuffer s t)
    (ended : t.terminated = s.terminated)
    (content : ∀ h idx, s.heldBuffer = some h → t.fbRead h idx = s.fbRead h idx) : t.FrameFilled := by
  obtain ⟨hr, hg, hb, hc⟩ := phases
  obtain ⟨hx, hy⟩ := cursor
  have sameHeld : t.heldBuffer = s.heldBuffer := by simp only [State.heldBuffer, buffer.1, buffer.2]
  rw [State.frameFilled_iff] at filled ⊢
  simp only [State.Passed, cfg, seq, hx, hy, ended, sameHeld, gen_congr cfg hr hg hb hc]
  intro h x y running busy held hv passed
  rw [content _ _ held]
  exact filled h x y running busy held hv passed

/-- The environment's own stores leave the content of a held buffer alone (R59). -/
theorem State.FrameFilled.applyEnvStores {s : State} (filled : s.FrameFilled)
    (noBreach : s.envBreach = none) : s.applyEnvStores.FrameFilled :=
  filled.of_same rfl ⟨rfl, rfl, rfl, rfl⟩ rfl ⟨rfl, rfl⟩ ⟨rfl, rfl⟩ rfl
    fun _ idx held => State.applyEnvStores_fbRead noBreach held idx

/-- The environment's move to its next boundary leaves the content alone. -/
theorem State.FrameFilled.advanceEnv {s : State} (filled : s.FrameFilled) : s.advanceEnv.FrameFilled :=
  filled.of_same rfl ⟨rfl, rfl, rfl, rfl⟩ rfl ⟨rfl, rfl⟩ ⟨rfl, rfl⟩ rfl fun _ _ _ => rfl

/-- The cursor's advance keeps the held buffer. -/
@[simp] theorem State.heldBuffer_advanceCursor (s : State) :
    s.advanceCursor.heldBuffer = s.heldBuffer := by
  simp [State.heldBuffer]

/-- The cursor's advance passes the one pixel at the cursor (R33, R144). -/
theorem State.Passed.of_advanceCursor {s : State} {x y : Coord} (passed : s.advanceCursor.Passed x y)
    (hv : Visible s.cfg x y) : s.Passed x y ∨ (x = s.cx ∧ y = s.cy) := by
  rw [or_iff_not_imp_right]
  intro notHere pix
  obtain ⟨hx, hy⟩ := hv
  have raster := s.advanceCursor_raster
  simp only [State.Passed, before, ← BitVec.toNat_inj (x := x), ← BitVec.toNat_inj (x := y)]
    at passed notHere ⊢
  split_ifs at raster with inRow inFrame <;> obtain ⟨cx, cy, seq⟩ := raster
  · specialize passed (seq.trans pix)
    rw [cx, cy] at passed
    omega
  · specialize passed (seq.trans pix)
    rw [cx, cy] at passed
    simp at passed
    omega
  · omega

/-- PIX stores the pixel at the cursor and leaves the other visible ones alone. -/
theorem fbRead_fbWrite_pixel {s : State} {h : Handle} {x y : Coord} (hv : Visible s.cfg x y)
    (cursor : Visible s.cfg s.cx s.cy)
    (pixel : s.fbRead h (addr s.cfg x y) = some (gen s x y) ∨ (x = s.cx ∧ y = s.cy)) :
    (s.fbWrite h (addr s.cfg s.cx s.cy) (gen s s.cx s.cy)).fbRead h (addr s.cfg x y) =
      some (gen s x y) := by
  by_cases same : addr s.cfg x y = addr s.cfg s.cx s.cy
  · obtain ⟨rfl, rfl⟩ := addrReturnsTheIndex.2.2 _ _ _ _ _ hv cursor same
    exact State.fbRead_fbWrite_self _ _ _ _
  · rw [State.fbRead_fbWrite_other _ _ (.inr same)]
    refine pixel.resolve_right ?_
    rintro ⟨rfl, rfl⟩
    exact same rfl

/-- PIX keeps the content of the frame (R45 I6, R61): it stores the one pixel that its cursor passes. -/
theorem State.FrameFilled.pix {s : State} {h : Handle} (filled : s.FrameFilled) (pix : s.seq = seqPix)
    (held : s.heldBuffer = some h) (cursor : Visible s.cfg s.cx s.cy) :
    (s.fbWrite h (addr s.cfg s.cx s.cy) (gen s s.cx s.cy)).advanceCursor.FrameFilled := by
  rw [State.frameFilled_iff] at filled ⊢
  intro h' x y running _ held' hv passed
  rw [State.advanceCursor_terminated] at running
  rw [State.advanceCursor_cfg, State.fbWrite_cfg] at hv ⊢
  rw [State.heldBuffer_advanceCursor] at held'
  obtain rfl : h = h' := Option.some.inj (held.symm.trans held')
  have upToHere : s.Passed x y ∨ (x = s.cx ∧ y = s.cy) :=
    State.Passed.of_advanceCursor (s := s.fbWrite h _ _) passed hv
  rw [State.fbRead_advanceCursor, fbRead_fbWrite_pixel hv cursor
    (upToHere.imp_left (filled h x y running (.inl pix) held hv))]
  exact congrArg some
    (gen_congr (by simp) (by simp) (by simp) (by simp) (by simp) x y).symm

/-- The operation a step selects keeps the content of the frame (R45 I6, R61). -/
theorem State.FrameFilled.execNext {s t : State} {i : Instr} (filled : s.FrameFilled)
    (sel : s.fetched = i) (he : ExecNext s i t) : t.FrameFilled := by
  cases he with
  | stays => exact filled
  | called =>
    exact filled.of_same rfl ⟨rfl, rfl, rfl, rfl⟩ rfl ⟨rfl, rfl⟩ ⟨rfl, rfl⟩ rfl fun _ _ _ => rfl
  | acquired =>
    exact State.frameFilled_iff.2 fun _ _ _ _ _ _ _ passed => absurd (passed rfl) (by simp [before])
  | stored held hx hy => exact filled.pix (fetched_seq.2.1 sel) held ⟨hx, hy⟩
  | failed => exact .of_idle (q := seqHalt) rfl (by decide)
  | submitted => exact .of_idle (q := seqAdv) rfl (by decide)
  | advanced => exact .of_idle (q := seqWait) rfl (by decide)
  | waited => exact .of_idle (q := seqAcq) rfl (by decide)

/-- Settles O41: RESET and TERMINATE leave nothing to say of the content. -/
theorem stepKeepsTheFrameContent : Obligations.StepKeepsTheFrameContent := by
  intro s t inv filled hs
  obtain ⟨ended, rfl⟩ | ⟨-, noBreach, ⟨-, rfl⟩ | ⟨-, rfl⟩ | ⟨-, u, he, rfl⟩⟩ := step_next hs
  · exact .of_terminated ended
  · exact .of_terminated rfl
  · exact .of_idle (q := seqAcq) rfl (by decide)
  · exact ((filled.applyEnvStores noBreach).execNext rfl he).advanceEnv

/-! ### Ownership -/

/-- The duty of R59 holds of the transactions and of the held buffer alone. -/
theorem State.OwnsWhatItHolds.of_released {t : State} (duty : OwnedUse t.trace)
    (released : t.heldBuffer = none) : t.OwnsWhatItHolds :=
  ⟨duty, fun h held => by simp [released] at held⟩

/-- The duty of R59 moves along unchanged transactions and an unchanged buffer. -/
theorem State.OwnsWhatItHolds.of_same {s t : State} (owns : s.OwnsWhatItHolds)
    (trace : t.trace = s.trace) (buffer : SameBuffer s t) : t.OwnsWhatItHolds := by
  obtain ⟨buf, bufv⟩ := buffer
  simpa only [State.OwnsWhatItHolds, State.heldBuffer, trace, buf, bufv] using owns

/-- The operation a step selects keeps the ownership duty (R59): it stores to and submits the held buffer
only, and Alloc is asked for where none is held. -/
theorem State.OwnsWhatItHolds.execNext {s t : State} {i : Instr} (inv : s.Inv)
    (owns : s.OwnsWhatItHolds) (sel : s.fetched = i) (he : ExecNext s i t) : t.OwnsWhatItHolds := by
  have ⟨duty, owner⟩ := owns
  cases he with
  | stays => exact owns
  | called | advanced => exact owns.of_same (by simp) (by simp [SameBuffer])
  | acquired => exact ⟨duty, fun _ held => held⟩
  | failed =>
    have inAcq := fetched_seq.1 sel
    obtain ⟨bufv, -⟩ := inv.idle (by rw [inAcq]; decide) (by rw [inAcq]; decide)
    exact .of_released duty (State.heldBuffer_eq_none.2 (.inl bufv))
  | stored held =>
    have issued : (s.fbWrite _ (addr s.cfg s.cx s.cy) (gen s s.cx s.cy)).OwnsWhatItHolds :=
      ⟨⟨owner _ held, duty⟩, owner⟩
    exact issued.of_same (by simp) (by simp [SameBuffer])
  | submitted held => exact .of_released ⟨owner _ held, duty⟩ rfl
  | waited => exact ⟨duty, owner⟩

/-- Settles O42: a host action issues nothing, and RESET leaves no buffer held. -/
theorem noStoreAfterSubmit : Obligations.NoStoreAfterSubmit := by
  intro s t inv owns hs
  obtain ⟨-, rfl⟩ | ⟨-, -, ⟨-, rfl⟩ | ⟨-, rfl⟩ | ⟨-, u, he, rfl⟩⟩ := step_next hs
  · exact owns.of_same (by simp) (by simp [SameBuffer])
  · exact owns.of_same (by simp) (by simp [SameBuffer])
  · exact .of_released (by simpa using owns.1) rfl
  · have kept : u.OwnsWhatItHolds := .execNext inv.applyEnvStores owns rfl he
    exact kept

/-! ### The state after reset -/

/-- The reset state of every configuration meets the invariant (R45, R46). -/
theorem State.Inv.resetWith (cfg : Config) (env : Env) : (State.resetWith cfg env).Inv :=
  .of_idle (q := seqAcq) rfl (by decide) rfl rfl ⟨rfl, rfl⟩ List.Pairwise.nil

/-- Settles O39: after reset nothing is held, issued or stored; the installed phases are 0 (log 3). -/
theorem resetMeetsTheInvariant : Obligations.ResetMeetsTheInvariant :=
  ⟨.resetWith _ _, .of_idle (q := seqAcq) rfl (by decide), .of_released trivial rfl, .resetWith, rfl, rfl,
    rfl, rfl⟩

end Sys2Proof.Machine

/-! The boundary of a step (R173, R182): one equation for each thing that a boundary can be, the environment's stores, RESET, TERMINATE and the run after it; O4, O5, O6, O7 and O8. -/

namespace Sys2Proof.Machine

/-- A run of `SameMachine` steps is `SameMachine`. -/
theorem SameMachine.trans {s t u : State} (first : SameMachine s t) (second : SameMachine t u) :
    SameMachine s u := by
  obtain ⟨cfg, ⟨hr, hg, hb, hc⟩, seq, ⟨hx, hy⟩, ⟨buf, bufv⟩, trace, bench⟩ := first
  obtain ⟨cfg', ⟨hr', hg', hb', hc'⟩, seq', ⟨hx', hy'⟩, ⟨buf', bufv'⟩, trace', bench'⟩ := second
  exact ⟨cfg'.trans cfg, ⟨hr'.trans hr, hg'.trans hg, hb'.trans hb, hc'.trans hc⟩, seq'.trans seq,
    ⟨hx'.trans hx, hy'.trans hy⟩, ⟨buf'.trans buf, bufv'.trans bufv⟩, trace'.trans trace,
    bench'.trans bench⟩

section
variable {s : State}

/-- After TERMINATE the environment alone goes on (R182; log 12). -/
theorem step_of_terminated (ended : s.terminated = true) :
    step s = .next s.applyEnvStores.advanceEnv := by
  simp only [step, ended, if_true]

/-- A store into the owned buffer is refused (M5; log 20). -/
theorem step_of_breach {h : Handle} (running : s.terminated = false) (breach : s.envBreach = some h) :
    step s = .refused (.ownedBufferTouched h) := by
  simp [step, running, breach]

/-- TERMINATE (R182). -/
theorem step_of_terminate (running : s.terminated = false) (noBreach : s.envBreach = none)
    (host : s.input.host = some .terminate) :
    step s = .next s.applyEnvStores.abandonBuffer.freeze.advanceEnv := by
  simp [step, running, noBreach, host]

/-- RESET (R190). -/
theorem step_of_reset (running : s.terminated = false) (noBreach : s.envBreach = none)
    (host : s.input.host = some .reset) :
    step s = .next s.applyEnvStores.abandonBuffer.resetRegs.advanceEnv := by
  simp [step, running, noBreach, host]

/-- With no host action the selected operation runs (R30, R173). -/
theorem step_of_fetched (running : s.terminated = false) (noBreach : s.envBreach = none)
    (noHost : s.input.host = none) : step s = closeStep (exec s.fetched s.applyEnvStores) := by
  simp [step, running, noBreach, noHost]

/-- The environment breaks its duty exactly by a store into the held buffer (R59). -/
theorem State.envBreach_of_store {h : Handle} {st : EnvStore} (held : s.heldBuffer = some h)
    (hst : st ∈ s.input.stores) (into : st.handle = h) : s.envBreach = some h := by
  have touched : (s.input.stores.any fun st => st.handle == h) = true :=
    List.any_eq_true.2 ⟨st, hst, by simp [into]⟩
  simp [State.envBreach, held, touched]

end

/-- An identifier's value is its class times 8 plus its number (R81). -/
theorem toNat_class_append (c : BitVec 1) (n : BitVec 3) :
    (c ++ n).toNat = 8 * c.toNat + n.toNat := by
  rw [BitVec.toNat_append, ← Nat.shiftLeft_add_eq_or_of_lt n.isLt, Nat.shiftLeft_eq, Nat.mul_comm]

/-- Settles O4: the identifier is the byte's low four bits; the rest reads the two halves of `fetchOp` and
the two cases of the script. -/
theorem stepRunsTheDecodedOperation : Obligations.StepRunsTheDecodedOperation := by
  refine ⟨fun s i running noBreach noHost decoded => ?_, fun s noCall => ?_, fun s n call => ?_,
    fun u i rest script => ?_, fun u script => ?_⟩
  · rw [step_of_fetched running noBreach noHost, fetched_of_decode decoded]
  · simp [State.fetchOp, noCall, toNat_class_append]
  · simp [State.fetchOp, call, toNat_class_append]
  · simp only [closeStep, State.advanceEnv, script]
  · simp only [closeStep, State.advanceEnv, script]

/-- A byte outside the elements that the environment stores to reads as before. -/
theorem Memory.read_applyStores_other (m : Memory) (o : ByteOrder) {a : Nat} {st : List EnvStore}
    (outside : ∀ e ∈ st, a ≠ elemAddr e.handle e.index ∧ a ≠ elemAddr e.handle e.index + 1) :
    (m.applyStores o st).read a = m.read a := by
  induction st generalizing m with
  | nil => rfl
  | cons e st ih =>
    obtain ⟨lower, upper⟩ := outside e List.mem_cons_self
    rw [Memory.applyStores, ih _ fun e' he' => outside e' (List.mem_cons_of_mem _ he'),
      Memory.read_writeElem_other _ _ _ _ _ lower upper]

/-- Settles O5 by the laws of the list of stores. -/
theorem environmentStoresAreApplied : Obligations.EnvironmentStoresAreApplied := by
  refine fun s => ⟨⟨_, rfl⟩, fun earlier later h idx v stores last => ?_,
    fun h idx unnamed => Memory.readElem_applyStores_unnamed _ _ unnamed,
    fun a outside => Memory.read_applyStores_other _ _ outside⟩
  rw [State.fbRead, State.applyEnvStores_fb, stores]
  exact Memory.readElem_applyStores_last _ _ earlier ⟨h, idx, v⟩ last

/-- Settles O6: the registers by `resetRegs`, the storage by `abandonBuffer`. -/
theorem resetActionRestoresRegisters : Obligations.ResetActionRestoresRegisters :=
  fun s running noBreach host => ⟨_, step_of_reset running noBreach host, by simp, by simp, by simp,
    by simp, by simp, by simp [seqAcq], by simp, by simp, by simp, by simp, by simp,
    s.applyEnvStores.read_abandonBuffer, by simp, by simpa using running⟩

/-- After TERMINATE a run of any length keeps all of the machine's part (R182; log 12). -/
theorem reaches_of_terminated {s : State} (ended : s.terminated = true) (k : Nat) :
    ∃ u, Reaches s k u ∧ u.terminated = true ∧ SameMachine s u := by
  induction k generalizing s with
  | zero =>
    exact ⟨s, rfl, ended, rfl, ⟨rfl, rfl, rfl, rfl⟩, rfl, ⟨rfl, rfl⟩, ⟨rfl, rfl⟩, rfl, rfl⟩
  | succ k ih =>
    obtain ⟨u, run, ended', same⟩ := ih (s := s.applyEnvStores.advanceEnv) ended
    have kept : SameMachine s s.applyEnvStores.advanceEnv := by
      simp [SameMachine, SamePhases, SameCursor, SameBuffer]
    exact ⟨u, run.cons (step_of_terminated ended), ended', kept.trans same⟩

/-- Settles O7: TERMINATE's own step, then any number of frozen ones. -/
theorem terminateEndsTheRun : Obligations.TerminateEndsTheRun := by
  intro s running noBreach host
  have frozen : SameMachine s s.applyEnvStores.abandonBuffer.freeze.advanceEnv := by
    simp [SameMachine, SamePhases, SameCursor, SameBuffer]
  refine ⟨_, step_of_terminate running noBreach host, rfl, frozen,
    s.applyEnvStores.read_abandonBuffer, fun k => ?_⟩
  obtain ⟨u, run, ended, same⟩ :=
    reaches_of_terminated (s := s.applyEnvStores.abandonBuffer.freeze.advanceEnv) rfl k
  exact ⟨u, run, ended, frozen.trans same⟩

/-- Settles O8. -/
theorem ownedBufferTouchedIsRefused : Obligations.OwnedBufferTouchedIsRefused :=
  fun _ _ _ running held hst into => step_of_breach running (State.envBreach_of_store held hst into)

end Sys2Proof.Machine

/-! The answers to a transaction and what ACQ, PIX, SUB and WAIT do without one or against their precondition (R58, R143, R174, R176; logs 9, 17, 18, 19); O9, O10, O11, O12, O13, O15, O17 and O21. -/

namespace Sys2Proof.Machine

section
variable {s : State}

/-- ACQ answered `ok(h)` (R143). -/
theorem exec_acq_ok {h : Handle} {contents : List (ElemIdx × Pixel)}
    (ans : s.input.alloc = some (.ok h contents)) :
    exec .acq s = .next (((((s.freshBuffer h contents).holdBuffer h).setCursor 0 0).setSeq seqPix).issue
      (.allocOk h)) := by
  simp only [exec, execAcq, ans]

/-- ACQ answered `fail` (R174). -/
theorem exec_acq_fail (ans : s.input.alloc = some .fail) :
    exec .acq s = .next ((s.raise .allocFail).issue .allocFail) := by
  simp only [exec, execAcq, ans]

/-- ACQ not answered (R176; log 9). -/
theorem exec_acq_unanswered (ans : s.input.alloc = none) : exec .acq s = .next s := by
  simp only [exec, execAcq, ans]

/-- SUB not answered (R176; log 9). -/
theorem exec_sub_unanswered {h : Handle} (held : s.heldBuffer = some h)
    (ans : s.input.submitted = false) : exec .sub s = .next s := by
  simp [exec, execSub, held, ans]

/-- WAIT not answered (R176; log 9). -/
theorem exec_wait_unanswered (ans : s.input.waited = false) : exec .wait s = .next s := by
  simp [exec, execWait, ans]

/-- PIX without a held buffer (M2; log 18). -/
theorem exec_pix_unheld (held : s.heldBuffer = none) : exec .pix s = .fault .bufHasNoValue := by
  simp only [exec, execPix, held]

/-- SUB without a held buffer (M2; log 18). -/
theorem exec_sub_unheld (held : s.heldBuffer = none) : exec .sub s = .fault .bufHasNoValue := by
  simp only [exec, execSub, held]

/-- PIX with its cursor outside the frame (log 17). -/
theorem exec_pix_outside {h : Handle} (held : s.heldBuffer = some h)
    (outside : ¬Visible s.cfg s.cx s.cy) : exec .pix s = .fault .cursorOutsideFrame := by
  have notIn : ¬s.cursorInFrame = true := mt State.cursorInFrame_iff.1 outside
  simp only [exec, execPix, held, if_neg notIn]

end

/-- Settles O9: the two answers; of the storage the fresh buffer alone changes. -/
theorem acqFollowsTheAllocator : Obligations.AcqFollowsTheAllocator := by
  refine ⟨rfl, fun s => ⟨fun h contents ans => ⟨_, exec_acq_ok ans, rfl, rfl, rfl, rfl, rfl, rfl,
      by simp [SamePhases], by simp [SameOutside], fun a other => ?_⟩,
    fun ans => ⟨_, exec_acq_fail ans, rfl, rfl, ?_⟩⟩⟩
  · exact (Memory.read_fill_other _ _ _ _ _ other).trans (by rw [Memory.read_forget, if_neg other])
  · simp [SamePhases, SameCursor, SameBuffer, SameOutside, SameStorage]

/-- A quiet step whose operation changes nothing leaves SLPG's part as it is (R176). -/
theorem State.Quiet.step_eq_stays {s : State} {i : Instr} (quiet : s.Quiet) (sel : decodeSeq s.seq = i)
    (stays : exec i s.applyEnvStores = .next s.applyEnvStores) :
    step s = .next s.applyEnvStores.advanceEnv := by
  rw [quiet.step_eq, sel, stays]
  rfl

/-- Settles O10. -/
theorem unansweredTransactionsChangeNothing : Obligations.UnansweredTransactionsChangeNothing := by
  refine ⟨fun _ => exec_acq_unanswered, fun _ _ => exec_sub_unanswered, fun _ => exec_wait_unanswered,
    fun s quiet waiting => ?_⟩
  obtain ⟨seq, ans⟩ | ⟨seq, held, ans⟩ | ⟨seq, ans⟩ := waiting
  · exact quiet.step_eq_stays (by rw [seq]; rfl) (exec_acq_unanswered ans)
  · obtain ⟨h, held⟩ := Option.isSome_iff_exists.1 held
    exact quiet.step_eq_stays (by rw [seq]; rfl) (exec_sub_unanswered (h := h) held ans)
  · exact quiet.step_eq_stays (by rw [seq]; rfl) (exec_wait_unanswered ans)

/-- An element of a forgotten buffer has no known value (R58). -/
theorem Memory.readElem_forget (m : Memory) (o : ByteOrder) (h : Handle) (idx : ElemIdx) :
    (m.forget h).readElem o h idx = none := by
  have lower : bufferOf (elemAddr h idx) = h := by
    simpa using bufferOf_elemAddr h idx (k := 0) (by decide)
  simp only [Memory.readElem, Memory.read_forget, lower, if_true]

/-- Filling leaves an element that is not listed alone. -/
theorem Memory.readElem_fill_unlisted (m : Memory) (o : ByteOrder) (h : Handle) (size : Nat)
    {idx : ElemIdx} {contents : List (ElemIdx × Pixel)} (unlisted : ∀ e ∈ contents, e.1 ≠ idx) :
    (m.fill o h size contents).readElem o h idx = m.readElem o h idx := by
  induction contents generalizing m with
  | nil => rfl
  | cons e contents ih =>
    obtain ⟨other, rest⟩ := List.forall_mem_cons.1 unlisted
    rw [Memory.fill, ih _ rest]
    split
    · exact Memory.readElem_writeElem_other _ _ _ (.inr other.symm)
    · rfl

/-- Filling gives an element inside the buffer its listed value, where it is listed once. -/
theorem Memory.readElem_fill_listed (m : Memory) (o : ByteOrder) (h : Handle) {size : Nat}
    {idx : ElemIdx} {v : Pixel} {contents : List (ElemIdx × Pixel)}
    (once : contents.Pairwise fun a b => a.1 ≠ b.1) (listed : (idx, v) ∈ contents)
    (inside : idx.toNat < size) : (m.fill o h size contents).readElem o h idx = some v := by
  induction contents generalizing m with
  | nil => cases listed
  | cons e contents ih =>
    obtain ⟨first, rest⟩ := List.pairwise_cons.1 once
    obtain rfl | later := List.mem_cons.1 listed
    · rw [Memory.fill, if_pos inside,
        Memory.readElem_fill_unlisted _ _ _ _ fun e he => (first e he).symm,
        Memory.readElem_writeElem_self]
    · exact ih _ rest later

/-- Settles O11: the buffer is forgotten, then filled. -/
theorem freshBufferHoldsTheDraw : Obligations.FreshBufferHoldsTheDraw := by
  intro s h contents ans
  refine ⟨_, exec_acq_ok ans, fun idx unlisted => ?_, fun idx v once listed inside => ?_⟩
  · exact (Memory.readElem_fill_unlisted _ _ _ _ unlisted).trans (Memory.readElem_forget _ _ _ _)
  · exact Memory.readElem_fill_listed _ _ _ once listed inside

/-- Settles O12: the step of ACQ on the answer `fail`. -/
theorem allocFailEntersHalt : Obligations.AllocFailEntersHalt := by
  intro s quiet seq ans
  have halts : step s = .next ((s.applyEnvStores.raise .allocFail).issue .allocFail).advanceEnv := by
    rw [quiet.step_eq, seq]
    exact congrArg closeStep (exec_acq_fail (s := s.applyEnvStores) ans)
  refine ⟨_, halts, rfl, rfl, rfl, ?_⟩
  simp [SamePhases, SameCursor, SameBuffer, SameStorage]

/-- In HALT an operation changes nothing but the bench, by a direct call (R148; log 13). -/
theorem ExecNext.eq_or_called_of_halt {s t : State} {i : Instr} (he : ExecNext s i t)
    (sel : s.fetched = i) (halted : s.seq = seqHalt) : t = s ∨ ∃ v, t = s.answerCall v := by
  obtain ⟨acq, pix, sub, adv, wait, -⟩ := fetched_seq (s := s)
  rw [halted] at acq pix sub adv wait
  cases he with
  | stays => exact .inl rfl
  | called _ v => exact .inr ⟨v, rfl⟩
  | acquired | failed => exact absurd (acq sel) (by decide)
  | stored => exact absurd (pix sel) (by decide)
  | submitted => exact absurd (sub sel) (by decide)
  | advanced => exact absurd (adv sel) (by decide)
  | waited => exact absurd (wait sel) (by decide)

/-- Every register, the configuration and the trace are unchanged. -/
def SameRegisters (s t : State) : Prop :=
  t.seq = s.seq ∧ SamePhases s t ∧ SameCursor s t ∧ SameBuffer s t ∧ t.cfg = s.cfg ∧ t.trace = s.trace

/-- A step in HALT without RESET keeps every register (R148, R175; log 19). -/
theorem sameRegisters_of_halt {s t : State} (halted : s.seq = seqHalt) (hs : step s = .next t)
    (noReset : s.input.host ≠ some .reset) : SameRegisters s t := by
  refine step_next_rel (R := SameRegisters) hs noReset
    (by simp [SameRegisters, SamePhases, SameCursor, SameBuffer])
    (by simp [SameRegisters, SamePhases, SameCursor, SameBuffer]) fun u he => ?_
  obtain rfl | ⟨v, rfl⟩ := he.eq_or_called_of_halt rfl halted <;>
    simp [SameRegisters, SamePhases, SameCursor, SameBuffer]

/-- Settles O13. -/
theorem haltIsAbsorbing : Obligations.HaltIsAbsorbing := by
  refine ⟨rfl, fun _ => rfl, fun s t halted hs noReset => ?_, fun s halted => ⟨?_, fun inv => ?_⟩⟩
  · obtain ⟨seq, registers⟩ := sameRegisters_of_halt halted hs noReset
    exact ⟨seq.trans halted, registers⟩
  · rw [State.runFault, if_pos halted]
  · exact inv.idle (by rw [halted]; decide) (by rw [halted]; decide)

/-- Settles O15: PIX stores to a visible pixel, whose column is below HRES. -/
theorem pixLeavesPaddingAlone : Obligations.PixLeavesPaddingAlone := by
  intro s t h idx held he padding
  refine fbRead_pix_other held he (.inr ?_)
  rintro rfl
  obtain ⟨-, -, visible, -⟩ := exec_pix_next he
  rw [addr_mod_stride visible] at padding
  exact padding.not_gt visible.1

/-- Settles O17. -/
theorem brokenPreconditionsFault : Obligations.BrokenPreconditionsFault := by
  refine ⟨fun s noBuffer => ?_, fun s h held outside => ?_⟩
  · have unheld := State.heldBuffer_eq_none.2 noBuffer
    exact ⟨exec_pix_unheld unheld, exec_sub_unheld unheld⟩
  · refine exec_pix_outside held fun visible => ?_
    obtain ⟨hx, hy⟩ := visible
    omega

/-- An answered call changes the bench alone (log 13). -/
theorem pureCall_answerCall (s : State) (v : Int) : PureCall s (s.answerCall v) :=
  ⟨rfl, ⟨rfl, rfl, rfl, rfl⟩, rfl, ⟨rfl, rfl⟩, ⟨rfl, rfl⟩, fun _ => rfl, rfl, rfl, rfl, rfl, rfl⟩

/-- Settles O21: each of the eight functions answers the call. -/
theorem directCallsAnswerTheFunctions : Obligations.DirectCallsAnswerTheFunctions :=
  fun s => ⟨⟨_, rfl, pureCall_answerCall s _, rfl⟩, ⟨_, rfl, pureCall_answerCall s _, rfl⟩,
    ⟨_, rfl, pureCall_answerCall s _, rfl⟩, ⟨_, rfl, pureCall_answerCall s _, rfl⟩,
    ⟨_, rfl, pureCall_answerCall s _, rfl⟩, ⟨_, rfl, pureCall_answerCall s _, rfl⟩,
    ⟨_, rfl, pureCall_answerCall s _, rfl⟩, ⟨_, rfl, pureCall_answerCall s _, rfl⟩⟩

end Sys2Proof.Machine

/-! The periods of a channel (R116): the sine index at a phase and scale known modulo 4096 only, half a period on the sign of both sines flips; O32, O33 and O34. -/

namespace Sys2Proof.Machine

/-- From width 12 on, the sine index depends on phase and scale modulo 4096 only (R116 (P3), D3). -/
theorem sineIndex_argAt_ofNat {w : Nat} (hw : 12 ≤ w) (p : Nat) (coord : Coord) (q : Nat) :
    (sineIndex (argAt w (BitVec.ofNat w p) coord (BitVec.ofNat w q)).toNat).val =
      (p + coord.toNat * q) % 4096 / 16 := by
  have wraps : 4096 ∣ 2 ^ w := Nat.pow_dvd_pow 2 hw
  have reduced (n : Nat) : (BitVec.ofNat w n).toNat ≡ n [MOD 4096] := by
    rw [BitVec.toNat_ofNat]
    exact Nat.mod_mod_of_dvd n wraps
  rw [sineIndex_argAt_val hw]
  exact congrArg (· / 16) ((reduced p).add ((reduced q).mul_left coord.toNat))

/-- The sine value of a coordinate is the same at every width of at least 12 (D3). -/
theorem sine_argAt_ofNat {w : Nat} (hw : 12 ≤ w) (c : Config) (p : Nat) (coord : Coord) (q : Nat) :
    sine c (argAt w (BitVec.ofNat w p) coord (BitVec.ofNat w q)).toNat =
      sine c (argAt 12 (BitVec.ofNat 12 p) coord (BitVec.ofNat 12 q)).toNat := by
  have sameIndex := (sineIndex_argAt_ofNat hw p coord q).trans
    (sineIndex_argAt_ofNat (le_refl 12) p coord q).symm
  rw [sine, sine, Fin.ext sameIndex]

/-- Settles O34: each channel reads the same two sines at both widths. -/
theorem plasmaIsIndependentOfTheWidth : Obligations.PlasmaIsIndependentOfTheWidth := by
  intro w c x y r g b rs gs bs hw
  simp only [plasmaAt, chanAt, sine_argAt_ofNat hw]

/-- Adding 2048 to the phase moves the sine index by half its range (R116 (P6)). -/
theorem sineIndex_arg_add_half (phase : Word) (coord : Coord) (scale : Word) :
    sineIndex (arg (phase + 2048) coord scale).toNat =
      sineIndex (arg phase coord scale).toNat + 128 := by
  have start := sineIndex_argAt_val (w := 32) (by decide) phase coord scale
  have moved := sineIndex_argAt_val (w := 32) (by decide) (phase + 2048) coord scale
  rw [BitVec.toNat_add, show (2048 : Word).toNat = 2048 from rfl] at moved
  rw [Fin.ext_iff, Fin.val_add, arg, arg, moved, start]
  show _ = (_ + 128) % 256
  omega

/-- (P6) Half a period on, both sines of a channel are negated, and their product is as before. -/
theorem chan_periodic (c : Config) (x y : Coord) (scale : Word) :
    Function.Periodic (fun phase => chan c phase x y scale) 2048 := by
  intro phase
  have negated (coord : Coord) : (sine c (arg (phase + 2048) coord scale).toNat).toInt =
      -(sine c (arg phase coord scale).toNat).toInt := by
    rw [sine_toInt, sineIndex_arg_add_half, sineEntry_add_half, ← sine_toInt]
  have halfway := chanAt_eq_fdiv 32 c (phase + 2048) x y scale
  rw [← arg, ← arg, negated, negated, neg_mul_neg] at halfway
  exact halfway.trans (chanAt_eq_fdiv 32 c phase x y scale).symm

/-- Settles O32. -/
theorem channelHalfPeriod : Obligations.ChannelHalfPeriod :=
  fun c phase x y scale => chan_periodic c x y scale phase

/-- Settles O33: every shift is a multiple of 2048, and each channel is symmetric. -/
theorem plasmaPeriodsAndSymmetry : Obligations.PlasmaPeriodsAndSymmetry := by
  intro c x y r g b
  have shifted (n : Nat) {delta : Word} (halves : n * 2048 = delta) (phase scale : Word) :
      chan c (phase + delta) x y scale = chan c phase x y scale := by
    rw [← halves]
    exact (chan_periodic c x y scale).nat_mul n phase
  have mirrored (phase scale : Word) : chan c phase x y scale = chan c phase y x scale :=
    chanAt_comm 32 c phase x y scale
  simp only [plasma_eq_pack565]
  refine ⟨?_, ?_, ?_, ?_, ?_⟩
  · rw [shifted 2 (by decide)]
  · rw [shifted 2 (by decide)]
  · rw [shifted 2 (by decide)]
  · rw [shifted 11 (by decide) r, shifted 7 (by decide) g, shifted 5 (by decide) b]
  · rw [mirrored, mirrored, mirrored]

end Sys2Proof.Machine

/-! The phase registers over many frames (R45 I5, R132): what k advances add up to, by induction on k; O35 and O36. -/

namespace Sys2Proof.Machine

/-- The machine after k phase advances, one per frame (R146). -/
def State.advanced (s : State) (k : Nat) : State :=
  (fun u : State => u.advancePhases u.cfg.straps.mode)^[k] s

theorem State.advanced_succ (s : State) (k : Nat) :
    s.advanced (k + 1) = (s.advanced k).advancePhases (s.advanced k).cfg.straps.mode :=
  Function.iterate_succ_apply' _ _ _

/-- The advances keep the configuration. -/
@[simp] theorem State.advanced_cfg (s : State) (k : Nat) : (s.advanced k).cfg = s.cfg := by
  induction k with
  | zero => rfl
  | succ k ih => rw [State.advanced_succ, State.advancePhases_cfg, ih]

/-- k advances under PLASMA (R45 I5). -/
theorem State.advanced_plasma {s : State} (mode : s.cfg.straps.mode = .plasma) (k : Nat) :
    (s.advanced k).rstart.toNat = (s.rstart.toNat + 11 * k) % 2 ^ 32 ∧
    (s.advanced k).gstart.toNat = (s.gstart.toNat + 7 * k) % 2 ^ 32 ∧
    (s.advanced k).bstart.toNat = (s.bstart.toNat + 5 * k) % 2 ^ 32 ∧
    (s.advanced k).counter = s.counter := by
  induction k with
  | zero => exact ⟨(Nat.mod_eq_of_lt s.rstart.isLt).symm, (Nat.mod_eq_of_lt s.gstart.isLt).symm,
      (Nat.mod_eq_of_lt s.bstart.isLt).symm, rfl⟩
  | succ k ih =>
    obtain ⟨red, green, blue, counter⟩ := ih
    obtain ⟨red', green', blue', counter'⟩ := (s.advanced k).advancePhases_plasma
    rw [State.advanced_succ, State.advanced_cfg, mode]
    exact ⟨by omega, by omega, by omega, counter'.trans counter⟩

/-- k advances under SOLID (R45 I5). -/
theorem State.advanced_solid {s : State} (mode : s.cfg.straps.mode = .solid) (k : Nat) :
    (s.advanced k).counter.toNat = (s.counter.toNat + k) % 2 ^ 32 ∧
    (s.advanced k).rstart = s.rstart ∧ (s.advanced k).gstart = s.gstart ∧
    (s.advanced k).bstart = s.bstart := by
  induction k with
  | zero => exact ⟨(Nat.mod_eq_of_lt s.counter.isLt).symm, rfl, rfl, rfl⟩
  | succ k ih =>
    obtain ⟨counter, red, green, blue⟩ := ih
    obtain ⟨counter', red', green', blue'⟩ := (s.advanced k).advancePhases_solid
    rw [State.advanced_succ, State.advanced_cfg, mode]
    exact ⟨by omega, red'.trans red, green'.trans green, blue'.trans blue⟩

/-- Settles O36, one mode after the other. -/
theorem phasesCountTheFrames : Obligations.PhasesCountTheFrames :=
  fun _ k => ⟨fun mode => State.advanced_plasma mode k, fun mode => State.advanced_solid mode k⟩

/-- Settles O35: COUNTER is k modulo 2^32, which leaves the same remainder modulo 8. -/
theorem solidGenAfterAdvances : Obligations.SolidGenAfterAdvances := by
  intro s k x y i mode start hi
  change gen (s.advanced k) x y = _
  obtain ⟨counter, -⟩ := State.advanced_solid mode k
  have index : paletteIndex (s.advanced k).counter = i := by
    rw [paletteIndex_eq_iff, counter, start, hi]
    simp
  rw [gen_of_solid (by rw [State.advanced_cfg, mode]), solid, index, State.advanced_cfg]

end Sys2Proof.Machine

/-! Stores to different elements commute in canonical storage (R151); O37. -/

namespace Sys2Proof.Machine

/-- The byte at an address after a store. -/
theorem Memory.read_write (m : Memory) (a a' : Nat) (b : Byte) :
    (m.write a b).read a' = if a' = a then some b else m.read a' := by
  split
  · next same => rw [same, Memory.read_write_self]
  · next other => exact Memory.read_write_other m b other

/-- The byte at an address after an element's store. -/
theorem Memory.read_writeElem (m : Memory) (o : ByteOrder) (h : Handle) (idx : ElemIdx) (v : Pixel)
    (a : Nat) : (m.writeElem o h idx v).read a =
      if a = elemAddr h idx + 1 then some (upperByte o v)
      else if a = elemAddr h idx then some (lowerByte o v) else m.read a := by
  simp only [Memory.writeElem, Memory.read_write]

/-- Stores to two elements of a buffer commute. -/
theorem Memory.writeElem_comm {m : Memory} (wf : m.wf) (o : ByteOrder) (h : Handle)
    {idx idx' : ElemIdx} (v v' : Pixel) (different : idx ≠ idx') :
    (m.writeElem o h idx v).writeElem o h idx' v' =
      (m.writeElem o h idx' v').writeElem o h idx v := by
  have disjoint {k k' : Nat} (hk : k < 2) (hk' : k' < 2) : elemAddr h idx + k ≠ elemAddr h idx' + k' :=
    fun same => different (elemAddr_inj hk hk' same).2.1
  have d00 := disjoint (k := 0) (k' := 0) (by decide) (by decide)
  have d01 := disjoint (k := 0) (k' := 1) (by decide) (by decide)
  have d10 := disjoint (k := 1) (k' := 0) (by decide) (by decide)
  have d11 := disjoint (k := 1) (k' := 1) (by decide) (by decide)
  refine Memory.ext (wf_writeElem (wf_writeElem wf ..) ..) (wf_writeElem (wf_writeElem wf ..) ..)
    fun a => ?_
  simp only [Memory.read_writeElem]
  generalize elemAddr h idx = e at *
  generalize elemAddr h idx' = e' at *
  grind

/-- Settles O37: different visible pixels have different indices. -/
theorem visibleStoresCommute : Obligations.VisibleStoresCommute := by
  intro m c h x y x' y' v v' wf hv hv' different
  refine Memory.writeElem_comm wf _ h v v' fun same => different ?_
  obtain ⟨rfl, rfl⟩ := addrReturnsTheIndex.2.2 c x y x' y' hv hv' same
  rfl

end Sys2Proof.Machine

/-! The transition table and the transactions of R149: what each value of SEQ selects, and what its operation does; O46 and O47. -/

namespace Sys2Proof.Machine

/-- What a transaction says of the step that issued it (R149, R152): the state of the sequencer it belongs to,
and its operands. -/
def IssuedBy (s t : State) : Transaction → Prop
  | .allocOk h => s.seq = seqAcq ∧ t.heldBuffer = some h
  | .allocFail => s.seq = seqAcq ∧ t.seq = seqHalt
  | .fbWrite h idx v => s.seq = seqPix ∧ s.heldBuffer = some h ∧
      idx = addr s.cfg s.cx s.cy ∧ v = gen s s.cx s.cy
  | .submit h => s.seq = seqSub ∧ s.heldBuffer = some h ∧ t.heldBuffer = none
  | .wait p => s.seq = seqWait ∧ p = s.cfg.straps.framePeriod

/-- The operation a step selects issues no transaction, or the one of its row (R149). -/
theorem ExecNext.issues {s t : State} {i : Instr} (he : ExecNext s i t) (sel : s.fetched = i) :
    t.trace = s.trace ∨ ∃ tr, t.trace = tr :: s.trace ∧ IssuedBy s t tr := by
  obtain ⟨acq, pix, sub, adv, wait, -⟩ := fetched_seq (s := s)
  cases he with
  | stays | called => exact .inl rfl
  | acquired => exact .inr ⟨_, rfl, acq sel, rfl⟩
  | failed => exact .inr ⟨_, rfl, acq sel, rfl⟩
  | stored held => exact .inr ⟨_, State.advanceCursor_trace _, pix sel, held, rfl, rfl⟩
  | submitted held => exact .inr ⟨_, rfl, sub sel, held, rfl⟩
  | advanced => exact .inl (State.advancePhases_trace _ _)
  | waited => exact .inr ⟨_, rfl, wait sel, rfl⟩

/-- Settles O46: host actions and the environment's stores issue nothing. -/
theorem transactionsFollowTheSequencer : Obligations.TransactionsFollowTheSequencer := by
  intro s t hs
  obtain ⟨-, rfl⟩ | ⟨-, -, ⟨-, rfl⟩ | ⟨-, rfl⟩ | ⟨-, u, he, rfl⟩⟩ := step_next hs
  · exact .inl rfl
  · exact .inl rfl
  · exact .inl rfl
  · obtain unchanged | ⟨tr, trace, issued⟩ := he.issues rfl
    · exact .inl unchanged
    · refine .inr ⟨tr, trace, ?_⟩
      cases tr <;> exact issued

/-- Without a direct call the operation is not a function (R81, log 13). -/
theorem fetched_class_of_seq {s : State} (noCall : s.bench.request = none) :
    (encodeOp s.fetched).getLsbD 3 = false := by
  have sequencer : ∀ q : BitVec 3, (encodeOp (decodeSeq q)).getLsbD 3 = false := by decide
  rw [fetched_of_seq noCall]
  exact sequencer s.seq

/-- PIX ends in SUB exactly at the last pixel of the frame (R144, R149). -/
theorem State.advanceCursor_seq (s : State) : s.advanceCursor.seq =
    if s.cx.toNat + 1 < s.cfg.straps.hres ∨ s.cy.toNat + 1 < s.cfg.straps.vres then s.seq
    else seqSub := by
  have raster := s.advanceCursor_raster
  split_ifs at raster with inRow inFrame
  · rw [if_pos (.inl inRow), raster.2.2]
  · rw [if_pos (.inr inFrame), raster.2.2]
  · rw [if_neg (by simp [inRow, inFrame]), raster.2.2]

/-- The rows of the transition table R149, with the hangs of R176. -/
def TableRow (s t : State) : Prop :=
  (s.seq = seqAcq ∧ ((s.input.alloc = none ∧ t.seq = seqAcq) ∨
    (s.input.alloc = some .fail ∧ t.seq = seqHalt) ∨
    ((∃ h contents, s.input.alloc = some (.ok h contents)) ∧ t.seq = seqPix))) ∨
  (s.seq = seqPix ∧ t.seq = if s.cx.toNat + 1 < s.cfg.straps.hres ∨
    s.cy.toNat + 1 < s.cfg.straps.vres then seqPix else seqSub) ∨
  (s.seq = seqSub ∧ t.seq = if s.input.submitted then seqAdv else seqSub) ∨
  (s.seq = seqAdv ∧ t.seq = seqWait) ∨
  (s.seq = seqWait ∧ t.seq = if s.input.waited then seqAcq else seqWait) ∨
  (s.seq = seqHalt ∧ t.seq = seqHalt)

/-- The operation SEQ selects writes the next value of SEQ by its row. -/
theorem ExecNext.tableRow {s t : State} {i : Instr} (he : ExecNext s i t) (sel : s.fetched = i)
    (noCall : s.bench.request = none) : TableRow s t := by
  obtain ⟨acq, pix, sub, adv, wait, halt⟩ := fetched_seq (s := s)
  cases he with
  | stays why =>
    obtain rfl | ⟨rfl, ans⟩ | ⟨rfl, ans, -⟩ | ⟨rfl, ans⟩ := why
    · exact .inr (.inr (.inr (.inr (.inr ⟨halt sel, halt sel⟩))))
    · exact .inl ⟨acq sel, .inl ⟨ans, acq sel⟩⟩
    · exact .inr (.inr (.inl ⟨sub sel, by simp [ans, sub sel]⟩))
    · exact .inr (.inr (.inr (.inr (.inl ⟨wait sel, by simp [ans, wait sel]⟩))))
  | acquired ans => exact .inl ⟨acq sel, .inr (.inr ⟨⟨_, _, ans⟩, rfl⟩)⟩
  | failed ans => exact .inl ⟨acq sel, .inr (.inl ⟨ans, rfl⟩)⟩
  | stored =>
    refine .inr (.inl ⟨pix sel, (State.advanceCursor_seq _).trans ?_⟩)
    rw [State.fbWrite_seq, pix sel]
    rfl
  | submitted held done => exact .inr (.inr (.inl ⟨sub sel, by simp [done]⟩))
  | advanced => exact .inr (.inr (.inr (.inl ⟨adv sel, rfl⟩)))
  | waited done => exact .inr (.inr (.inr (.inr (.inl ⟨wait sel, by simp [done]⟩))))
  | called fn =>
    rw [← sel, fetched_class_of_seq noCall] at fn
    cases fn

/-- Settles O47: at a quiet boundary the selected operation runs. -/
theorem transitionTable : Obligations.TransitionTable := by
  intro s t quiet hs
  obtain ⟨running, -, noHost, noCall⟩ := quiet
  obtain ⟨ended, -⟩ | ⟨-, -, ⟨host, -⟩ | ⟨host, -⟩ | ⟨-, u, he, rfl⟩⟩ := step_next hs
  · simp [running] at ended
  · simp [noHost] at host
  · simp [noHost] at host
  · have row : TableRow s.applyEnvStores u := he.tableRow rfl noCall
    exact row

end Sys2Proof.Machine

/-! Progress (R149, R153, R201): every step in SLPG's own hands ends the iteration, brings its end nearer, or waits for an answer; O48 and O49. -/

namespace Sys2Proof.Machine

/-- SLPG's own operations run from here on: the invariant holds, the run has not ended and no direct call is
pending. -/
structure State.Live (s : State) : Prop where
  inv : s.Inv
  running : s.terminated = false
  noCall : s.bench.request = none

/-- The pixels of the frame before the cursor, in raster order (R33). -/
def State.pixelsStored (s : State) : Nat := s.cy.toNat * s.cfg.straps.hres + s.cx.toNat

/-- HRES·VRES, the visible pixels of a frame. -/
def State.frameSize (s : State) : Nat := s.cfg.straps.hres * s.cfg.straps.vres

/-- How many answered steps the next Submit is away, unless the machine halts before (R153). -/
def State.stepsLeft (s : State) : Nat :=
  if s.seq = seqSub then 1
  else if s.seq = seqPix then s.frameSize - s.pixelsStored + 1
  else if s.seq = seqAcq then s.frameSize + 2
  else if s.seq = seqWait then s.frameSize + 3
  else s.frameSize + 4

section
variable {s : State}

theorem State.stepsLeft_sub (seq : s.seq = seqSub) : s.stepsLeft = 1 := if_pos seq

theorem State.stepsLeft_pix (seq : s.seq = seqPix) :
    s.stepsLeft = s.frameSize - s.pixelsStored + 1 := by
  simp [State.stepsLeft, seq, seqPix, seqSub]

theorem State.stepsLeft_acq (seq : s.seq = seqAcq) : s.stepsLeft = s.frameSize + 2 := by
  simp [State.stepsLeft, seq, seqAcq, seqPix, seqSub]

theorem State.stepsLeft_wait (seq : s.seq = seqWait) : s.stepsLeft = s.frameSize + 3 := by
  simp [State.stepsLeft, seq, seqWait, seqAcq, seqPix, seqSub]

theorem State.stepsLeft_adv (seq : s.seq = seqAdv) : s.stepsLeft = s.frameSize + 4 := by
  simp [State.stepsLeft, seq, seqAdv, seqWait, seqAcq, seqPix, seqSub]

/-- No state is further from its Submit than an ADV. -/
theorem State.stepsLeft_bounds (s : State) : 1 ≤ s.stepsLeft ∧ s.stepsLeft ≤ s.frameSize + 4 := by
  unfold State.stepsLeft
  split_ifs <;> omega

/-- A visible cursor has a pixel of the frame to store. -/
theorem State.pixelsStored_lt (hv : Visible s.cfg s.cx s.cy) : s.pixelsStored < s.frameSize := by
  obtain ⟨hx, hy⟩ := hv
  have row : (s.cy.toNat + 1) * s.cfg.straps.hres ≤ s.cfg.straps.vres * s.cfg.straps.hres :=
    Nat.mul_le_mul_right _ hy
  rw [Nat.succ_mul] at row
  rw [State.pixelsStored, State.frameSize, Nat.mul_comm s.cfg.straps.hres]
  omega

/-- The cursor's advance counts one pixel: the next one, or the last of the frame (R144). -/
theorem State.advanceCursor_pixelsStored (hv : Visible s.cfg s.cx s.cy) :
    (s.advanceCursor.seq = s.seq ∧ s.advanceCursor.pixelsStored = s.pixelsStored + 1) ∨
    (s.advanceCursor.seq = seqSub ∧ s.pixelsStored + 1 = s.frameSize) := by
  obtain ⟨hx, hy⟩ := hv
  have raster := s.advanceCursor_raster
  simp only [State.pixelsStored, State.frameSize, State.advanceCursor_cfg]
  split_ifs at raster with inRow inFrame <;> obtain ⟨cx, cy, seq⟩ := raster
  · exact .inl ⟨seq, by rw [cx, cy, Nat.add_assoc]⟩
  · have rowEnd : s.cfg.straps.hres = s.cx.toNat + 1 := by omega
    refine .inl ⟨seq, ?_⟩
    rw [cx, cy, Nat.succ_mul, Nat.add_assoc, rowEnd]
    rfl
  · have rowEnd : s.cx.toNat + 1 = s.cfg.straps.hres := by omega
    have frameEnd : s.cy.toNat + 1 = s.cfg.straps.vres := by omega
    refine .inr ⟨seq, ?_⟩
    rw [Nat.add_assoc, rowEnd, ← Nat.succ_mul, Nat.succ_eq_add_one, frameEnd, Nat.mul_comm]

/-- The six values of SEQ that the invariant allows (R30, R45 I1). -/
theorem State.Inv.seq_cases (inv : s.Inv) : s.seq = seqAcq ∨ s.seq = seqPix ∨ s.seq = seqSub ∨
    s.seq = seqAdv ∨ s.seq = seqWait ∨ s.seq = seqHalt := by
  have all : ∀ q : BitVec 3, q.toNat ≤ 5 →
      q = seqAcq ∨ q = seqPix ∨ q = seqSub ∨ q = seqAdv ∨ q = seqWait ∨ q = seqHalt := by decide
  exact all _ inv.seqLegal

/-- Where the invariant holds and no short buffer is handed out, the selected operation has a next state: no
fault and no refusal is reached (R34, R57, R144). -/
theorem State.Inv.exec_completes (inv : s.Inv)
    (noShort : s.seq = seqAcq → ∀ h, s.input.alloc ≠ some (.short h)) :
    ∃ u, exec (decodeSeq s.seq) s = .next u := by
  obtain seq | seq | seq | seq | seq | seq := inv.seq_cases <;> rw [seq]
  · cases ans : s.input.alloc with
    | none => exact ⟨_, exec_acq_unanswered ans⟩
    | some reply =>
      cases reply with
      | ok h contents => exact ⟨_, exec_acq_ok ans⟩
      | short h => exact absurd ans (noShort seq h)
      | fail => exact ⟨_, exec_acq_fail ans⟩
  · obtain ⟨h, held⟩ := inv.held (.inl seq)
    exact ⟨_, exec_pix_visible held (inv.cursorIn seq)⟩
  · obtain ⟨h, held⟩ := inv.held (.inr seq)
    cases ans : s.input.submitted with
    | false => exact ⟨_, exec_sub_unanswered held ans⟩
    | true => exact ⟨_, exec_sub_submitted held ans⟩
  · exact ⟨_, exec_adv s⟩
  · cases ans : s.input.waited with
    | false => exact ⟨_, exec_wait_unanswered ans⟩
    | true => exact ⟨_, exec_wait_waited ans⟩
  · exact ⟨_, rfl⟩

/-- An undisturbed step in SLPG's own hands runs the operation SEQ selects. -/
theorem State.Live.step_eq {u : State} (live : s.Live) (undisturbed : s.Undisturbed)
    (completes : exec (decodeSeq s.seq) s.applyEnvStores = .next u) : step s = .next u.advanceEnv := by
  rw [step_of_seq live.running live.noCall undisturbed, completes]
  rfl

/-- Such a step leaves SLPG in its own hands. -/
theorem State.Live.next {u : State} (live : s.Live) (undisturbed : s.Undisturbed)
    (completes : exec (decodeSeq s.seq) s.applyEnvStores = .next u) : u.advanceEnv.Live :=
  ⟨stepKeepsTheInvariant _ _ live.inv (live.step_eq undisturbed completes),
    (exec_next completes).terminated_eq.trans live.running,
    (exec_next completes).request_eq_none live.noCall⟩

end

/-- PIX brings the Submit one step nearer. -/
theorem stepsLeft_pix_lt {s : State} (h : Handle) (seq : s.seq = seqPix)
    (hv : Visible s.cfg s.cx s.cy) :
    (s.fbWrite h (addr s.cfg s.cx s.cy) (gen s s.cx s.cy)).advanceCursor.stepsLeft < s.stepsLeft := by
  generalize stored : s.fbWrite h (addr s.cfg s.cx s.cy) (gen s s.cx s.cy) = w
  have before : s.stepsLeft = w.frameSize - w.pixelsStored + 1 := by
    rw [State.stepsLeft_pix seq, ← stored]
    rfl
  have visible : Visible w.cfg w.cx w.cy := by rwa [← stored]
  have sameFrame : w.advanceCursor.frameSize = w.frameSize := by simp [State.frameSize]
  have room := State.pixelsStored_lt visible
  obtain ⟨stays, count⟩ | ⟨ends, count⟩ := State.advanceCursor_pixelsStored visible
  · rw [State.stepsLeft_pix (stays.trans (stored ▸ seq)), sameFrame, before]
    omega
  · rw [State.stepsLeft_sub ends, before]
    omega

/-- What an operation selected by SEQ does for the iteration: it waits for an answer, halts, submits, or
brings the Submit nearer (R149, R153, R176). -/
theorem ExecNext.progress {s t : State} {i : Instr} (he : ExecNext s i t) (sel : s.fetched = i)
    (noCall : s.bench.request = none) (notHalted : s.seq ≠ seqHalt) :
    (t = s ∧ ¬s.Answered) ∨ t.seq = seqHalt ∨ (∃ h, t.trace = .submit h :: s.trace) ∨
      t.stepsLeft < s.stepsLeft := by
  obtain ⟨acq, pix, sub, adv, wait, halt⟩ := fetched_seq (s := s)
  have sameFrame : t.frameSize = s.frameSize := by rw [State.frameSize, he.cfg_eq, State.frameSize]
  cases he with
  | stays why =>
    refine .inl ⟨rfl, fun answered => ?_⟩
    obtain ⟨hAlloc, hSubmit, hWait⟩ := answered
    obtain rfl | ⟨rfl, ans⟩ | ⟨rfl, ans, -⟩ | ⟨rfl, ans⟩ := why
    · exact notHalted (halt sel)
    · exact hAlloc (acq sel) ans
    · simp [hSubmit (sub sel)] at ans
    · simp [hWait (wait sel)] at ans
  | acquired =>
    refine .inr (.inr (.inr ?_))
    rw [State.stepsLeft_pix rfl, State.stepsLeft_acq (acq sel), sameFrame]
    omega
  | failed => exact .inr (.inl rfl)
  | stored held hx hy => exact .inr (.inr (.inr (stepsLeft_pix_lt _ (pix sel) ⟨hx, hy⟩)))
  | submitted => exact .inr (.inr (.inl ⟨_, rfl⟩))
  | advanced =>
    refine .inr (.inr (.inr ?_))
    rw [State.stepsLeft_wait rfl, State.stepsLeft_adv (adv sel), sameFrame]
    omega
  | waited =>
    refine .inr (.inr (.inr ?_))
    rw [State.stepsLeft_acq rfl, State.stepsLeft_wait (wait sel), sameFrame]
    omega
  | called fn =>
    rw [← sel, fetched_class_of_seq noCall] at fn
    cases fn

/-- `k` steps from `s` lead to `u`, which is in SLPG's own hands and lists what has been issued since. -/
structure RunTo (s : State) (k : Nat) (u : State) : Prop where
  reached : Reaches s k u
  issued : s.trace <:+ u.trace
  live : u.Live

/-- A Submit on top of what has been issued since `s` ends the iteration (R153). -/
theorem EndedSince.of_submit {s u t : State} {h : Handle} (issued : s.trace <:+ u.trace)
    (submitted : t.trace = .submit h :: u.trace) : EndedSince s t := by
  obtain ⟨newer, trace⟩ := issued
  exact .inr ⟨h, newer, by rw [submitted, trace]⟩

/-- One more undisturbed step of a run: it waits for an answer, ends the iteration or brings the Submit
nearer. -/
theorem RunTo.next {s u : State} {k : Nat} (run : RunTo s k u) (undisturbed : u.Undisturbed)
    (notHalted : u.seq ≠ seqHalt) :
    ∃ t, RunTo s (k + 1) t ∧ ((t = u.applyEnvStores.advanceEnv ∧ ¬u.Answered) ∨ EndedSince s t ∨
      t.stepsLeft < u.stepsLeft) := by
  have selected := fetched_of_seq (s := u.applyEnvStores) run.live.noCall
  have ⟨_, _, noShort⟩ := undisturbed
  obtain ⟨v, completes⟩ := run.live.inv.applyEnvStores.exec_completes noShort
  have he := exec_next completes
  refine ⟨_, ⟨run.reached.append (.one (run.live.step_eq undisturbed completes)),
    run.issued.trans he.trace_suffix, run.live.next undisturbed completes⟩, ?_⟩
  obtain ⟨rfl, waits⟩ | halts | ⟨h, submitted⟩ | nearer :=
    he.progress selected run.live.noCall notHalted
  · exact .inl ⟨rfl, waits⟩
  · exact .inr (.inl (.inl halts))
  · exact .inr (.inl (.of_submit run.issued submitted))
  · exact .inr (.inr nearer)

/-- A state in SLPG's own hands is the start of its own run. -/
theorem State.Live.runTo_zero {s : State} (live : s.Live) : RunTo s 0 s :=
  ⟨rfl, List.suffix_rfl, live⟩

/-- With every transaction answered, a run of `k` steps that is `n` steps from its Submit ends within `k + n`
steps (R153). -/
theorem RunTo.ends {s u : State} {k n bound : Nat}
    (answers : ∀ k u, k < bound → Reaches s k u → u.Undisturbed ∧ u.Answered) (run : RunTo s k u)
    (near : u.stepsLeft ≤ n) (within : k + n ≤ bound) :
    ∃ k t, k ≤ bound ∧ Reaches s k t ∧ EndedSince s t := by
  induction n generalizing k u with
  | zero =>
    have bounds := u.stepsLeft_bounds
    omega
  | succ n ih =>
    by_cases halted : u.seq = seqHalt
    · exact ⟨k, u, by omega, run.reached, .inl halted⟩
    obtain ⟨undisturbed, answered⟩ := answers k u (by omega) run.reached
    obtain ⟨t, run', ⟨-, waits⟩ | ended | nearer⟩ := run.next undisturbed halted
    · exact absurd answered waits
    · exact ⟨k + 1, t, by omega, run'.reached, ended⟩
    · exact ih run' (by omega) (by omega)

/-- Settles O48: no state is further than HRES·VRES + 4 steps from its Submit. -/
theorem nextSubmitOrHaltIsReached : Obligations.NextSubmitOrHaltIsReached :=
  fun s inv running noCall _ answers =>
    RunTo.ends answers (State.Live.runTo_zero ⟨inv, running, noCall⟩) s.stepsLeft_bounds.2
      (Nat.zero_add _).le

/-! ### Answers that come late -/

/-- The transaction in progress is answered `m` boundaries from now, if SEQ stays (R201). -/
def State.AnsweredAfter (s : State) (m : Nat) : Prop :=
  (s.seq = seqAcq → (s.inputAfter m).alloc ≠ none) ∧
  (s.seq = seqSub → (s.inputAfter m).submitted = true) ∧
  (s.seq = seqWait → (s.inputAfter m).waited = true)

/-- The three premises of R201 are that the transaction in progress is answered some time. -/
theorem State.answeredAfter_of_fair {s : State} (alloc : s.FAlloc) (submit : s.FSubmit)
    (wait : s.FWait) : ∃ m, s.AnsweredAfter m := by
  have distinct : seqAcq ≠ seqSub ∧ seqAcq ≠ seqWait ∧ seqSub ≠ seqWait := by decide
  obtain ⟨has, haw, hsw⟩ := distinct
  by_cases acq : s.seq = seqAcq
  · obtain ⟨m, ans⟩ := alloc acq
    exact ⟨m, fun _ => ans, fun h => absurd (acq.symm.trans h) has, fun h => absurd (acq.symm.trans h) haw⟩
  by_cases sub : s.seq = seqSub
  · obtain ⟨m, ans⟩ := submit sub
    exact ⟨m, fun h => absurd h acq, fun _ => ans, fun h => absurd (sub.symm.trans h) hsw⟩
  by_cases waits : s.seq = seqWait
  · obtain ⟨m, ans⟩ := wait waits
    exact ⟨m, fun h => absurd h acq, fun h => absurd h sub, fun _ => ans⟩
  · exact ⟨0, fun h => absurd h acq, fun h => absurd h sub, fun h => absurd h waits⟩

/-- A step that waits brings the answer one boundary nearer. -/
theorem State.AnsweredAfter.of_waits {s : State} {m : Nat} (later : s.AnsweredAfter (m + 1)) :
    s.applyEnvStores.advanceEnv.AnsweredAfter m := by
  have sameInput : s.applyEnvStores.advanceEnv.inputAfter m = s.inputAfter (m + 1) :=
    inputAfter_congr (s := s.applyEnvStores.advanceEnv) (t := s.advanceEnv) rfl m
  rw [State.AnsweredAfter, sameInput]
  exact later

section
variable {s : State}

/-- A run whose answer comes some time gets nearer to its Submit, if it never ends. -/
theorem RunTo.nears (undisturbed : ∀ k u, Reaches s k u → u.Undisturbed)
    (unending : ∀ k u, Reaches s k u → ¬EndedSince s u) {u : State} {k m : Nat} (run : RunTo s k u)
    (answered : u.AnsweredAfter m) : ∃ k' t, RunTo s k' t ∧ t.stepsLeft < u.stepsLeft := by
  induction m generalizing k u with
  | zero =>
    have goesOn := unending k u run.reached
    obtain ⟨t, run', ⟨-, waits⟩ | ended | nearer⟩ :=
      run.next (undisturbed k u run.reached) fun halted => goesOn (.inl halted)
    · exact absurd answered waits
    · exact absurd ended (unending _ t run'.reached)
    · exact ⟨_, t, run', nearer⟩
  | succ m ih =>
    have goesOn := unending k u run.reached
    obtain ⟨t, run', ⟨rfl, -⟩ | ended | nearer⟩ :=
      run.next (undisturbed k u run.reached) fun halted => goesOn (.inl halted)
    · obtain ⟨k', t, run'', nearer⟩ := ih run' answered.of_waits
      exact ⟨k', t, run'', nearer⟩
    · exact absurd ended (unending _ t run'.reached)
    · exact ⟨_, t, run', nearer⟩

/-- Under the premises of R201 a run cannot go on without an end: it would get nearer to its Submit for
ever. -/
theorem RunTo.not_unending (undisturbed : ∀ k u, Reaches s k u → u.Undisturbed)
    (fair : ∀ k u, Reaches s k u → ∃ m, u.AnsweredAfter m)
    (unending : ∀ k u, Reaches s k u → ¬EndedSince s u) {u : State} {k : Nat} (run : RunTo s k u) :
    False := by
  induction left : u.stepsLeft using Nat.strong_induction_on generalizing k u with
  | _ n ih =>
    obtain ⟨m, answered⟩ := fair k u run.reached
    obtain ⟨k', t, run', nearer⟩ := run.nears undisturbed unending answered
    exact ih t.stepsLeft (left ▸ nearer) run' rfl

end

/-- Settles O49: a run that never ended would meet the premises at every state. -/
theorem fairIterationsSubmitOrHalt : Obligations.FairIterationsSubmitOrHalt := by
  intro s inv running noCall premises
  by_contra never
  have unending (k : Nat) (u : State) (reached : Reaches s k u) : ¬EndedSince s u :=
    fun ended => never ⟨k, u, reached, ended⟩
  have holds (k : Nat) (u : State) (reached : Reaches s k u) :=
    premises k u reached fun j v _ earlier => unending j v earlier
  refine RunTo.not_unending (fun k u reached => (holds k u reached).1) (fun k u reached => ?_) unending
    (State.Live.runTo_zero ⟨inv, running, noCall⟩)
  obtain ⟨-, alloc, submit, wait⟩ := holds k u reached
  exact State.answeredAfter_of_fair alloc submit wait

end Sys2Proof.Machine

/-! One iteration of the frame loop (R149, R150, R152): ACQ, one PIX for each visible pixel in raster order, SUB, ADV and WAIT; O50. -/

namespace Sys2Proof.Machine

/-! ### The transactions of FILL, by pixel number -/

/-- A row of `w` entries for each of `v` rows is one list of `w * v` entries, row by row. -/
theorem flatMap_rows_eq_map {α : Type} (f : Nat → Nat → α) (v w : Nat) :
    ((List.range v).flatMap fun y => (List.range w).map fun x => f x y) =
      (List.range (w * v)).map fun k => f (k % w) (k / w) := by
  induction v with
  | zero => simp
  | succ v ih =>
    rw [List.range_succ, List.flatMap_append, ih, Nat.mul_succ, List.range_add, List.map_append,
      List.map_map, List.flatMap_singleton]
    refine congrArg _ (List.map_congr_left fun x hx => ?_)
    have inRow : x < w := List.mem_range.1 hx
    rw [Function.comp_apply, Nat.mul_add_mod, Nat.mod_eq_of_lt inRow,
      Nat.mul_add_div (Nat.zero_lt_of_lt inRow), Nat.div_eq_of_lt inRow, Nat.add_zero]

/-- The store of pixel number `k` of the frame in raster order (R33, R144). -/
def pixelWrite (s : State) (h : Handle) (k : Nat) : Transaction :=
  .fbWrite h
    (addr s.cfg (BitVec.ofNat 16 (k % s.cfg.straps.hres)) (BitVec.ofNat 16 (k / s.cfg.straps.hres)))
    (gen s (BitVec.ofNat 16 (k % s.cfg.straps.hres)) (BitVec.ofNat 16 (k / s.cfg.straps.hres)))

/-- The stores of the first `j` pixels, newest first. -/
def pixelWrites (s : State) (h : Handle) (j : Nat) : List Transaction :=
  ((List.range j).map (pixelWrite s h)).reverse

theorem pixelWrites_succ (s : State) (h : Handle) (j : Nat) :
    pixelWrites s h (j + 1) = pixelWrite s h j :: pixelWrites s h j := by
  simp [pixelWrites, List.range_succ]

/-- FILL is the stores of all pixels of the frame (R92). -/
theorem fillTransactions_eq (s : State) (h : Handle) :
    fillTransactions s h = pixelWrites s h s.frameSize :=
  congrArg List.reverse (flatMap_rows_eq_map (fun x y => Transaction.fbWrite h
    (addr s.cfg (BitVec.ofNat 16 x) (BitVec.ofNat 16 y))
    (gen s (BitVec.ofNat 16 x) (BitVec.ofNat 16 y))) s.cfg.straps.vres s.cfg.straps.hres)

/-- GEN moves along unchanged phases (R141). -/
theorem gen_of_samePhases {s t : State} (cfg : t.cfg = s.cfg) (phases : SamePhases s t) (x y : Coord) :
    gen t x y = gen s x y := by
  obtain ⟨hr, hg, hb, hc⟩ := phases
  exact gen_congr cfg hr hg hb hc x y

/-- The stores of a frame are the same from a state with the same configuration and phases. -/
theorem pixelWrites_congr {s t : State} (cfg : t.cfg = s.cfg) (phases : SamePhases s t) (h : Handle)
    (j : Nat) : pixelWrites t h j = pixelWrites s h j := by
  have samePixel : pixelWrite t h = pixelWrite s h :=
    funext fun k => by rw [pixelWrite, pixelWrite, cfg, gen_of_samePhases cfg phases]
  rw [pixelWrites, pixelWrites, samePixel]

/-- The store that PIX issues is that of the pixel number at which its cursor stands. -/
theorem pixelWrite_pixelsStored {s t : State} (h : Handle) (cfg : t.cfg = s.cfg)
    (phases : SamePhases s t) (hv : Visible t.cfg t.cx t.cy) :
    pixelWrite s h t.pixelsStored = .fbWrite h (addr t.cfg t.cx t.cy) (gen t t.cx t.cy) := by
  have inRow : t.cx.toNat < s.cfg.straps.hres := cfg ▸ hv.1
  have column : t.pixelsStored % s.cfg.straps.hres = t.cx.toNat := by
    rw [State.pixelsStored, cfg, Nat.mul_add_mod', Nat.mod_eq_of_lt inRow]
  have row : t.pixelsStored / s.cfg.straps.hres = t.cy.toNat := by
    rw [State.pixelsStored, cfg, Nat.mul_comm, Nat.mul_add_div (Nat.zero_lt_of_lt inRow),
      Nat.div_eq_of_lt inRow, Nat.add_zero]
  rw [pixelWrite, column, row, BitVec.ofNat_toNat, BitVec.ofNat_toNat, BitVec.setWidth_eq,
    BitVec.setWidth_eq, gen_of_samePhases cfg phases, cfg]

/-! ### Rendering -/

/-- The state after `j` pixels of the frame that was begun in state `w` with buffer `h` in hand (R150): all
pixels so far are stored and issued in order, and no padding element has changed. -/
structure Rendered (w : State) (h : Handle) (j : Nat) (u : State) : Prop where
  live : u.Live
  filled : u.FrameFilled
  cfg : u.cfg = w.cfg
  phases : SamePhases w u
  held : u.heldBuffer = some h
  trace : u.trace = pixelWrites w h j ++ w.trace
  padding : ∀ idx : ElemIdx, w.cfg.straps.hres ≤ idx.toNat % w.cfg.straps.stride →
    u.fbRead h idx = w.fbRead h idx
  stands : (u.seq = seqPix ∧ u.pixelsStored = j) ∨ (u.seq = seqSub ∧ j = w.frameSize)

section
variable {w u : State} {h : Handle} {j : Nat}

/-- Before the last pixel the sequencer is in PIX. -/
theorem Rendered.pix_of_lt (r : Rendered w h j u) (more : j < w.frameSize) :
    u.seq = seqPix ∧ u.pixelsStored = j :=
  r.stands.resolve_right fun ends => more.ne ends.2

/-- After the last pixel the sequencer is in SUB: a visible cursor would still have a pixel to store. -/
theorem Rendered.sub_of_all (r : Rendered w h w.frameSize u) : u.seq = seqSub := by
  obtain ⟨pix, count⟩ | ⟨sub, -⟩ := r.stands
  · have room := State.pixelsStored_lt (r.live.inv.cursorIn pix)
    rw [count, State.frameSize, State.frameSize, r.cfg] at room
    exact absurd room (Nat.lt_irrefl _)
  · exact sub

/-- An undisturbed step of PIX renders the next pixel. -/
theorem Rendered.next (r : Rendered w h j u) (more : j < w.frameSize) (undisturbed : u.Undisturbed) :
    ∃ t, step u = .next t ∧ Rendered w h (j + 1) t := by
  obtain ⟨pix, count⟩ := r.pix_of_lt more
  have cursor : Visible u.cfg u.cx u.cy := r.live.inv.cursorIn pix
  have stores : exec (decodeSeq u.seq) u.applyEnvStores =
      .next (u.applyEnvStores.fbWrite h (addr u.cfg u.cx u.cy)
        (gen u.applyEnvStores u.cx u.cy)).advanceCursor := by
    rw [pix]
    exact exec_pix_visible (s := u.applyEnvStores) r.held cursor
  have next := r.live.step_eq undisturbed stores
  refine ⟨_, next, r.live.next undisturbed stores,
    stepKeepsTheFrameContent _ _ r.live.inv r.filled next,
    (configurationNeverChanges _ _ next).trans r.cfg, ?_, ?_, ?_, ?_, ?_⟩
  · simpa [SamePhases] using r.phases
  · exact (State.heldBuffer_advanceCursor _).trans r.held
  · refine (State.advanceCursor_trace _).trans ?_
    rw [pixelWrites_succ, ← count, pixelWrite_pixelsStored h r.cfg r.phases cursor, count,
      List.cons_append, ← r.trace]
    rfl
  · intro idx padding
    rw [pix] at stores
    have alone := pixLeavesPaddingAlone u.applyEnvStores _ h idx r.held stores (r.cfg ▸ padding)
    have kept := State.applyEnvStores_fbRead undisturbed.1 r.held idx
    exact alone.trans (kept.trans (r.padding idx padding))
  · obtain ⟨stays, advanced⟩ | ⟨ends, last⟩ := State.advanceCursor_pixelsStored
      (s := u.applyEnvStores.fbWrite h (addr u.cfg u.cx u.cy) (gen u.applyEnvStores u.cx u.cy)) cursor
    · exact .inl ⟨stays.trans pix, advanced.trans (congrArg (· + 1) count)⟩
    · exact .inr ⟨ends, count ▸ last.trans (by rw [State.frameSize, State.frameSize, ← r.cfg]; rfl)⟩

/-- A run of undisturbed steps renders the frame pixel by pixel. -/
theorem Rendered.reaches {s : State} {k : Nat} (begun : Reaches s k w) (r : Rendered w h 0 w)
    (undisturbed : ∀ j u, j < w.frameSize → Reaches s (k + j) u → u.Undisturbed)
    (within : j ≤ w.frameSize) : ∃ u, Reaches s (k + j) u ∧ Rendered w h j u := by
  induction j with
  | zero => exact ⟨w, begun, r⟩
  | succ j ih =>
    obtain ⟨u, reached, rendered⟩ := ih (by omega)
    obtain ⟨t, next, rendered'⟩ := rendered.next within (undisturbed j u within reached)
    exact ⟨t, reached.append (.one next), rendered'⟩

end

/-! ### The whole iteration -/

/-- The answered ACQ begins a frame: no pixel is stored yet, the phases are those before (R143). -/
theorem Rendered.begins {s : State} {h : Handle} {contents : List (ElemIdx × Pixel)} (live : s.Live)
    (undisturbed : s.Undisturbed) (acq : s.seq = seqAcq)
    (ans : s.input.alloc = some (.ok h contents)) :
    ∃ v, exec .acq s.applyEnvStores = .next v ∧ step s = .next v.advanceEnv ∧
      Rendered v.advanceEnv h 0 v.advanceEnv ∧ v.cfg = s.cfg ∧ SamePhases s v ∧
      v.trace = .allocOk h :: s.trace := by
  have takes := exec_acq_ok (s := s.applyEnvStores) ans
  have completes := takes
  rw [show Instr.acq = decodeSeq s.seq by rw [acq]; rfl] at completes
  have next := live.step_eq undisturbed completes
  have empty : s.FrameFilled := .of_idle acq (by decide)
  refine ⟨_, takes, next, ⟨live.next undisturbed completes,
    stepKeepsTheFrameContent _ _ live.inv empty next, rfl, ⟨rfl, rfl, rfl, rfl⟩, rfl, rfl,
    fun _ _ => rfl, .inl ⟨rfl, ?_⟩⟩, ?_, ?_, ?_⟩
  · simp [State.pixelsStored]
  · simp
  · simp [SamePhases]
  · simp

/-- At the Submit every visible element holds its pixel at the frame's phase (R61, R150). -/
theorem Rendered.fbRead_visible {w u : State} {h : Handle} (r : Rendered w h w.frameSize u) {x y : Coord}
    (hv : Visible w.cfg x y) : u.fbRead h (addr w.cfg x y) = some (gen w x y) := by
  have content := r.filled.whole h x y r.live.running r.sub_of_all r.held (r.cfg ▸ hv)
  rwa [r.cfg, gen_of_samePhases r.cfg r.phases] at content

theorem SamePhases.trans {s t u : State} (first : SamePhases s t) (second : SamePhases t u) :
    SamePhases s u := by
  obtain ⟨hr, hg, hb, hc⟩ := first
  obtain ⟨hr', hg', hb', hc'⟩ := second
  exact ⟨hr'.trans hr, hg'.trans hg, hb'.trans hb, hc'.trans hc⟩

/-- Equal phases advance to equal phases (R146). -/
theorem SamePhases.advancePhases {s t : State} (same : SamePhases s t) (m : Mode) :
    SamePhases (s.advancePhases m) (t.advancePhases m) := by
  obtain ⟨hr, hg, hb, hc⟩ := same
  cases m <;> simp [SamePhases, State.advancePhases, hr, hg, hb, hc]

section
variable {u : State} (live : u.Live) (undisturbed : u.Undisturbed)
include live undisturbed

/-- The step of an answered Submit (R145). -/
theorem State.Live.step_sub {h : Handle} (answered : u.Answered) (sub : u.seq = seqSub)
    (held : u.heldBuffer = some h) : ∃ t, step u = .next t ∧ t.Live ∧ t.seq = seqAdv ∧ t.cfg = u.cfg ∧
      SamePhases u t ∧ t.trace = .submit h :: u.trace := by
  obtain ⟨-, submitted, -⟩ := answered
  have submits : exec (decodeSeq u.seq) u.applyEnvStores =
      .next ((u.applyEnvStores.issue (.submit h)).releaseBuffer.setSeq seqAdv) := by
    rw [sub]
    exact exec_sub_submitted (s := u.applyEnvStores) held (submitted sub)
  exact ⟨_, live.step_eq undisturbed submits, live.next undisturbed submits, rfl, by simp,
    by simp [SamePhases], by simp⟩

/-- The step of ADV (R146). -/
theorem State.Live.step_adv (adv : u.seq = seqAdv) : ∃ t, step u = .next t ∧ t.Live ∧
    t.seq = seqWait ∧ t.cfg = u.cfg ∧ SamePhases (u.advancePhases u.cfg.straps.mode) t ∧
      t.trace = u.trace := by
  have advances : exec (decodeSeq u.seq) u.applyEnvStores =
      .next ((u.applyEnvStores.advancePhases u.cfg.straps.mode).setSeq seqWait) := by
    rw [adv]
    rfl
  have same : SamePhases u u.applyEnvStores := ⟨rfl, rfl, rfl, rfl⟩
  exact ⟨_, live.step_eq undisturbed advances, live.next undisturbed advances, rfl, by simp,
    same.advancePhases _, by simp⟩

/-- The step of a Wait that returns (R147). -/
theorem State.Live.step_wait (answered : u.Answered) (wait : u.seq = seqWait) :
    ∃ t, step u = .next t ∧ t.seq = seqAcq ∧ SamePhases u t ∧
      t.trace = .wait u.cfg.straps.framePeriod :: u.trace := by
  obtain ⟨-, -, waited⟩ := answered
  have returns : exec (decodeSeq u.seq) u.applyEnvStores =
      .next ((u.applyEnvStores.issue (.wait u.cfg.straps.framePeriod)).setSeq seqAcq) := by
    rw [wait]
    exact exec_wait_waited (s := u.applyEnvStores) (waited wait)
  exact ⟨_, live.step_eq undisturbed returns, rfl, by simp [SamePhases], by simp⟩

end

/-- Three answered steps from SUB submit the buffer, advance the phases once and wait, back to ACQ (R145 to
R147). -/
theorem reaches_acq_of_sub {s u : State} {k : Nat} {h : Handle} (reached : Reaches s k u) (live : u.Live)
    (sub : u.seq = seqSub) (held : u.heldBuffer = some h)
    (answers : ∀ j v, j < 3 → Reaches s (k + j) v → v.Undisturbed ∧ v.Answered) :
    ∃ t, Reaches s (k + 3) t ∧ t.seq = seqAcq ∧
      SamePhases (u.advancePhases u.cfg.straps.mode) t ∧
      t.trace = .wait u.cfg.straps.framePeriod :: .submit h :: u.trace := by
  obtain ⟨calm, answered⟩ := answers 0 u (by decide) reached
  obtain ⟨v, next, live, adv, cfg, phases, trace⟩ := live.step_sub calm answered sub held
  have reached := reached.append (.one next)
  obtain ⟨calm, -⟩ := answers 1 v (by decide) reached
  obtain ⟨w, next, live, wait, cfg', phases', trace'⟩ := live.step_adv calm adv
  have reached := reached.append (.one next)
  obtain ⟨calm, answered⟩ := answers 2 w (by decide) reached
  obtain ⟨t, next, acq, phases'', trace''⟩ := live.step_wait calm answered wait
  refine ⟨t, reached.append (.one next), acq, ?_, by rw [trace'', trace', trace, cfg', cfg]⟩
  rw [cfg] at phases'
  exact ((phases.advancePhases _).trans phases').trans phases''

/-- Settles O50: ACQ, the rendering, and the three steps after it. -/
theorem oneIterationRendersOneFrame : Obligations.OneIterationRendersOneFrame := by
  intro s h contents inv running noCall acq ans answers
  obtain ⟨w, takes, next, begun, cfg, phases, trace⟩ :=
    Rendered.begins ⟨inv, running, noCall⟩ (answers 0 s (by omega) rfl).1 acq ans
  have size : s.frameSize = w.advanceEnv.frameSize := by
    rw [State.frameSize, State.frameSize, State.advanceEnv_cfg, cfg]
  have fill : pixelWrites w.advanceEnv h w.advanceEnv.frameSize = fillTransactions s h := by
    rw [fillTransactions_eq, size]
    exact pixelWrites_congr cfg phases h _
  rw [← State.frameSize, size] at answers ⊢
  obtain ⟨u, reached, rendered⟩ := Rendered.reaches (j := w.advanceEnv.frameSize) (.one next) begun
    (fun j u hj reached => (answers _ u (by omega) reached).1) le_rfl
  obtain ⟨t, reached', seq, advanced, trace'⟩ := reaches_acq_of_sub reached rendered.live
    rendered.sub_of_all rendered.held fun j u hj reached => answers _ u (by omega) reached
  have sameCfg : u.cfg = s.cfg := rendered.cfg.trans cfg
  rw [Nat.add_comm] at reached
  rw [Nat.add_comm 1, Nat.add_assoc] at reached'
  refine ⟨u, t, reached, rendered.sub_of_all, rendered.held, fun x y hv => ?_,
    fun w' takes' idx hidx => ?_, reached', seq, ?_, ?_⟩
  · rw [← cfg, ← gen_of_samePhases cfg phases]
    exact rendered.fbRead_visible (show Visible w.cfg x y from cfg ▸ hv)
  · rw [takes] at takes'
    cases takes'
    exact rendered.padding idx (show w.cfg.straps.hres ≤ _ % w.cfg.straps.stride from cfg ▸ hidx)
  · rw [sameCfg] at advanced
    have sofar : SamePhases s u := SamePhases.trans (t := w) phases rendered.phases
    exact (sofar.advancePhases _).trans advanced
  · rw [trace', rendered.trace, fill, State.advanceEnv_trace, trace, sameCfg]

end Sys2Proof.Machine
